-- ==== Sys2Proof/Word.lean ====
section
/-! DEFINITION. The word types of the block: u64 words, opcodes, status bits, and the four-word vector.
`00_scope.md` R8 (`W`, `NWORDS`) and R11. -/

namespace Sys2Proof

/-- A u64 (R8 `W = 64`, R11). -/
abbrev Word := BitVec 64

/-- An opcode, 8 bits (R77). -/
abbrev Opcode := BitVec 8

/-- A whole command word `C[71:0] = cmd_op ∥ cmd_arg` (R77). -/
abbrev Command := BitVec 72

/-- The 2-bit response status (R85). -/
abbrev StatusBits := BitVec 2

/-- An ordered sequence of exactly four 64-bit words (R8 `NWORDS = 4`, R20): the shape of the generator
state `S` and of the expansion buffer `E`.  Word `i` is `w<i>`. -/
structure Quad where
  w0 : Word
  w1 : Word
  w2 : Word
  w3 : Word
deriving DecidableEq, Repr

/-- The all-zero vector, which a generator state must never be (R21). -/
def Quad.zero : Quad := ⟨0, 0, 0, 0⟩

end Sys2Proof
end

