-- ==== Sys2Proof/Config.lean ====
section
/-! DEFINITION. The implementation parameters of `00_scope.md` R8, and the values the spec leaves open.
A value with a default is a definition; an OPEN value is an opaque constant with no body. -/

namespace Sys2Proof

/-- `SAMPLER_ALG` (R8, R164, R165; `90_conflicts.md` C3). -/
inductive SamplerAlg where
  | lemire
  | modulo
deriving DecidableEq, Repr

/-- The build-time parameters of one block instance that R8 marks "default" or "OPEN".
They are fixed for the life of an instance (R32).  Which values are admissible is `Params.wf`
(`WellFormed.lean`).  `RETRY_CAP` is none (R166), so it has no field; `HOST_BYTE_ORDER` belongs to a host
wrapper outside the block (R51); `N_INST` is the number of instances of a `System` (`Machine/System.lean`). -/
structure Params where
  /-- `EXP_GAMMA` -/
  expGamma : Word
  /-- `EXP_M1` -/
  expM1 : Word
  /-- `EXP_M2` -/
  expM2 : Word
  /-- `EXP_SH1` -/
  expSh1 : Nat
  /-- `EXP_SH2` -/
  expSh2 : Nat
  /-- `EXP_FINAL` -/
  expFinal : Bool
  /-- `EXP_SH3`, used only when `EXP_FINAL` -/
  expSh3 : Nat
  /-- `GEN_A`, a left-shift amount -/
  genA : Nat
  /-- `GEN_B`, a rotate amount -/
  genB : Nat
  /-- `FALLBACK_STATE` (OPEN) -/
  fallback : Quad
  /-- `RESET_SEED` (OPEN) -/
  resetSeed : Word
  /-- `SAMPLER_ALG` -/
  samplerAlg : SamplerAlg
deriving DecidableEq, Repr

namespace Config

/-- `GEN_MUL1`, fixed by the source (R8, R130). -/
def genMul1 : Word := 5

/-- `GEN_ROT`, fixed by the source (R8, R130). -/
def genRot : Nat := 7

/-- `GEN_MUL2`, fixed by the source (R8, R130). -/
def genMul2 : Word := 9

/-- `RESET_SEED` is OPEN (R8, R230): a free value, with no body.  Assumption log 1. -/
opaque resetSeed : Word

/-- Which non-zero vector `FALLBACK_STATE` is: a free value, with no body (R8).  Assumption log 2. -/
opaque fallbackIndex : Nat

/-- The vector whose 256 bits, `w0` lowest, are the number `n`. -/
def quadOfNat (n : Nat) : Quad :=
  ⟨BitVec.ofNat 64 n, BitVec.ofNat 64 (n / 2 ^ 64), BitVec.ofNat 64 (n / 2 ^ 128), BitVec.ofNat 64 (n / 2 ^ 192)⟩

/-- `FALLBACK_STATE` is OPEN and not all zero (R8, R104): as `fallbackIndex` ranges over the numbers,
this ranges over all non-zero vectors and nothing else.  Assumption log 2. -/
def fallbackState : Quad := quadOfNat (1 + fallbackIndex % (2 ^ 256 - 1))

/-- The value a register takes where the spec calls it unspecified: the `n`-th free word, with no body.
Assumption log 3. -/
opaque freeWord : Nat → Word

/-- The parameters of the instance that `State.reset` describes: every default of R8
(marked there [from general knowledge, not in source]; assumption log 4), and the OPEN values left open. -/
def params : Params where
  expGamma := 0x9E3779B97F4A7C15
  expM1 := 0xBF58476D1CE4E5B9
  expM2 := 0x94D049BB133111EB
  expSh1 := 30
  expSh2 := 27
  expFinal := true
  expSh3 := 31
  genA := 17
  genB := 45
  fallback := fallbackState
  resetSeed := resetSeed
  samplerAlg := .lemire

end Config

end Sys2Proof
end

