-- ==== Sys2Proof/Syntax.lean ====
section
/-! DEFINITION. The commands of the block, one constructor per row of `spec/opcode_table.json` (`30_encoding.md` R79).
DRAW64 and DRAW32 ignore their argument (R78), so their constructors carry none. -/

namespace Sys2Proof

/-- The five commands, in the order of R79. -/
inductive Instr where
  /-- `SEED seed` (R107) -/
  | seed (seed : Word)
  /-- `DRAW64` (R135) -/
  | draw64
  /-- `DRAW32` (R136) -/
  | draw32
  /-- `SAMPLE bound` (R172) -/
  | sample (bound : Word)
  /-- `ONEIN bound` (R174) -/
  | onein (bound : Word)
deriving DecidableEq, Repr

end Sys2Proof
end

