-- ==== Sys2Proof/WellFormed.lean ====
section
/-! DEFINITION. What is well formed: the parameters of an instance (`00_scope.md` R8, `40_seed_expander.md` R101) and
commands.  Each check of `Params.wf` has a name of its own. -/

namespace Sys2Proof

/-- The word is odd (R101). -/
def oddWord (w : Word) : Bool := w.toNat % 2 == 1

/-- A shift or rotate amount in 1..63 (R8, R101). -/
def shiftAmount (k : Nat) : Bool := decide (1 ≤ k ∧ k ≤ 63)

/-- The vector is not all zero (R8, R21). -/
def nonzeroQuad (q : Quad) : Bool := !(q == Quad.zero)

/-- `EXP_GAMMA`, `EXP_M1` and `EXP_M2` are odd (R101). -/
def Params.oddConstants (p : Params) : Bool := oddWord p.expGamma && oddWord p.expM1 && oddWord p.expM2

/-- The expander's shift amounts are in 1..63 (R101). -/
def Params.expanderShifts (p : Params) : Bool := shiftAmount p.expSh1 && shiftAmount p.expSh2 && shiftAmount p.expSh3

/-- The generator's amounts are in 1..63 (R8). -/
def Params.generatorShifts (p : Params) : Bool := shiftAmount p.genA && shiftAmount p.genB

/-- The parameters are admissible: "A model instantiated with an even constant is outside this spec" (R101). -/
def Params.wf (p : Params) : Bool :=
  p.oddConstants && p.expanderShifts && p.generatorShifts && nonzeroQuad p.fallback

/-- Every command is well formed: an operand is a u64 by its type, all 64 bits are operand, and
"every value is legal" (R82, R107, R172, R174). -/
def Instr.wf : Instr → Bool
  | .seed _ => true
  | .draw64 => true
  | .draw32 => true
  | .sample _ => true
  | .onein _ => true

end Sys2Proof
end

