-- ==== Sys2Proof/Decode.lean ====
section
/-! DEFINITION. The decoder, total on every 72-bit word and rejecting by name, and the encoder
(`30_encoding.md` R77 to R83, `spec/opcode_table.json`). -/

namespace Sys2Proof

/-- Why a command word is no command: its opcode is one of the 251 illegal values (R81). -/
inductive DecodeError where
  | illegalOpcode (op : Opcode)
deriving DecidableEq, Repr

/-- `C[71:64]`, the opcode field (R77). -/
def commandOp (c : Command) : Opcode := c.extractLsb' 64 8

/-- `C[63:0]`, the argument field (R77). -/
def commandArg (c : Command) : Word := c.extractLsb' 0 64

/-- `C[71:0] = cmd_op[7:0] ∥ cmd_arg[63:0]` (R77). -/
def commandOf (op : Opcode) (arg : Word) : Command := op ++ arg

/-- The decoder of R80: all eight opcode bits are compared with the five assigned opcodes of R79.
The argument is only carried along, whole (R78); it never selects the command. -/
def decodeFields (op : Opcode) (arg : Word) : Except DecodeError Instr :=
  if op = 0x01 then .ok (.seed arg)
  else if op = 0x02 then .ok .draw64
  else if op = 0x03 then .ok .draw32
  else if op = 0x04 then .ok (.sample arg)
  else if op = 0x05 then .ok (.onein arg)
  else .error (.illegalOpcode op)

/-- Decoding a whole command word (R77, R80). -/
def decode (c : Command) : Except DecodeError Instr := decodeFields (commandOp c) (commandArg c)

/-- The opcode of a command (R79). -/
def opcodeOf : Instr → Opcode
  | .seed _ => 0x01
  | .draw64 => 0x02
  | .draw32 => 0x03
  | .sample _ => 0x04
  | .onein _ => 0x05

/-- The argument a command is sent with: its operand, or 0 for the commands that ignore it (R78, R86). -/
def argumentOf : Instr → Word
  | .seed seed => seed
  | .draw64 => 0
  | .draw32 => 0
  | .sample bound => bound
  | .onein bound => bound

/-- The command word of a command (R77, R79). -/
def encode (i : Instr) : Command := commandOf (opcodeOf i) (argumentOf i)

/-- Does the command read its argument (R78)? -/
def readsArgument : Instr → Bool
  | .seed _ => true
  | .draw64 => false
  | .draw32 => false
  | .sample _ => true
  | .onein _ => true

/-- The command word whose bits are `w`, numbered as `spec/opcode_table.json` numbers them: bit 0 is `C[0]`.
Bits at and above `nbits` are 0. -/
def commandOfTable (nbits w : Nat) : Command := BitVec.ofNat 72 (w % 2 ^ nbits)

/-- The host's view of the decoder.  Every command has 72 bits and no wider transfer exists (R53, R83). -/
def decodeTableWord (nbits w : Nat) : Option Instr :=
  if 72 < nbits then none
  else
    match decode (commandOfTable nbits w) with
    | .ok i => some i
    | .error _ => none

end Sys2Proof
end

