-- ==== Sys2Proof/Machine/Operands.lean ====
section
/-! DEFINITION. The operators on u64 values that `00_scope.md` R12 writes out, beyond those Lean's bit vectors have
under the same name (`+`, `*`, `-`, `%`, `^^^`, `&&&`, `|||`, `<<<`, `>>>` are R12's, all modulo 2^64). -/

namespace Sys2Proof.Machine

/-- `rotl64(a, k) = (a << k) | (a >> (64 − k))` for `k` in 1..63, and `rotl64(a, 0) = a` (R12). -/
def rotl64 (a : Word) (k : Nat) : Word := if k = 0 then a else (a <<< k) ||| (a >>> (64 - k))

/-- `mul128(a, b)`: the exact product of two u64 values as a u128 (R12). -/
def mul128 (a b : Word) : BitVec 128 := a.setWidth 128 * b.setWidth 128

/-- `hi64(m) = m[127:64]` (R12). -/
def hi64 (m : BitVec 128) : Word := m.extractLsb' 64 64

/-- `lo64(m) = m[63:0]` (R12). -/
def lo64 (m : BitVec 128) : Word := m.extractLsb' 0 64

/-- `zext_64(r[63:32])`: the upper 32 bits of a draw in the low half of the result (R136). -/
def upper32 (r : Word) : Word := (r.extractLsb' 32 32).setWidth 64

/-- `b` with its word `k` replaced by `v`; an index past 3 writes nothing (`E[k] <- v`, R102). -/
def setQuad (q : Quad) (k : Nat) (v : Word) : Quad :=
  match k with
  | 0 => { q with w0 := v }
  | 1 => { q with w1 := v }
  | 2 => { q with w2 := v }
  | 3 => { q with w3 := v }
  | _ => q

/-- Word `k` of a vector, for `k` in 0..3 (R13); no rule reads another index. -/
def getQuad (q : Quad) (k : Nat) : Word :=
  match k with
  | 0 => q.w0
  | 1 => q.w1
  | 2 => q.w2
  | _ => q.w3

end Sys2Proof.Machine
end

