-- ==== Sys2Proof/Machine/BitGenerator.lean ====
section
/-! DEFINITION. The Bit Generator as pure functions of the generator state: `Out` and `Advance`
(`41_bit_generator.md` R130, R131). -/

namespace Sys2Proof.Machine

/-- `Out(S) = rotl64(S[1] * GEN_MUL1, GEN_ROT) * GEN_MUL2` (R130). -/
def genOut (q : Quad) : Word := rotl64 (q.w1 * Config.genMul1) Config.genRot * Config.genMul2

/-- `Advance(S)`: the statements of R131 in their order, each reading what the ones before it wrote. -/
def advance (p : Params) (q : Quad) : Quad :=
  let t := q.w1 <<< p.genA
  let s2 := q.w2 ^^^ q.w0
  let s3 := q.w3 ^^^ q.w1
  let s1 := q.w1 ^^^ s2
  let s0 := q.w0 ^^^ s3
  let s2' := s2 ^^^ t
  let s3' := rotl64 s3 p.genB
  ⟨s0, s1, s2', s3'⟩

/-- The generator state after `n` draws. -/
def advanceBy (p : Params) : Nat → Quad → Quad
  | 0, q => q
  | n + 1, q => advanceBy p n (advance p q)

/-- Draw number `n`, counted from 0, of the stream that starts at `q` (R132). -/
def drawAt (p : Params) (n : Nat) (q : Quad) : Word := genOut (advanceBy p n q)

end Sys2Proof.Machine
end

