-- ==== Sys2Proof/Machine/BoundedSampler.lean ====
section
/-! DEFINITION. The decisions of the Unbiased Sampler as pure functions of the bound and one draw
(`42_sampler.md` R160 to R165). -/

namespace Sys2Proof.Machine

/-- `IsPow2(b)`: `b ≠ 0` and `(b & (b − 1)) == 0` (R160). -/
def isPow2 (b : Word) : Bool := b != 0 && (b &&& (b - 1)) == 0

/-- `Threshold(b) = (-b) mod b` in u64 arithmetic, for `b ≥ 1` (R161). -/
def threshold (b : Word) : Word := (-b) % b

/-- `SLIM = (2^64 div b) * b` on exact integers (R165). -/
def sampleLimit (b : Word) : Word := BitVec.ofNat 64 (2 ^ 64 / b.toNat * b.toNat)

/-- One draw of the power-of-two fast path: the low `log2(b)` bits (R163). -/
def maskDraw (b x : Word) : Word := x &&& (b - 1)

/-- One test of Lemire's loop: accept with the high half of the product if its low half is at least `STH` (R164). -/
def lemireTest (sb sth x : Word) : Option Word :=
  if sth ≤ lo64 (mul128 x sb) then some (hi64 (mul128 x sb)) else none

/-- One test of the portability fallback: accept with the remainder if the draw is below `SLIM` (R165). -/
def moduloTest (sb slim x : Word) : Option Word :=
  if x < slim then some (x % sb) else none

/-- One acceptance test of the general path, from the sampler's registers; `none` is a rejection. -/
def loopTest (alg : SamplerAlg) (sb sth slim x : Word) : Option Word :=
  match alg with
  | .lemire => lemireTest sb sth x
  | .modulo => moduloTest sb slim x

/-- What the general path for bound `b` decides about the draw `x`, the registers being set up from `b`. -/
def judgeDraw (alg : SamplerAlg) (b x : Word) : Option Word := loopTest alg b (threshold b) (sampleLimit b) x

/-- The general path takes bounds `b ≥ 3` that are no power of two (R168). -/
def generalBound (b : Word) : Bool := b != 0 && !(isPow2 b)

end Sys2Proof.Machine
end

