-- ==== Sys2Proof/Machine/Flags.lean ====
section
/-! DEFINITION. The block has no flags or condition codes (`10_state.md` R31); the one outcome of a command is the
response status of `30_encoding.md` R85. -/

namespace Sys2Proof.Machine

/-- The two statuses the block produces (R85). -/
inductive Status where
  /-- the command was one of the five and completed -/
  | ok
  /-- `OP` spelled no command -/
  | illegal
deriving DecidableEq, Repr

/-- The code of a status on `rsp_status` (R85). -/
def statusBits : Status → StatusBits
  | .ok => 0b00
  | .illegal => 0b01

/-- `0b10` and `0b11` are reserved and never produced (R85, R203). -/
def reservedStatus (st : StatusBits) : Bool := st == 0b10 || st == 0b11

end Sys2Proof.Machine
end

