-- ==== Sys2Proof/Machine/SeedExpander.lean ====
section
/-! DEFINITION. The Seed Expander as a pure function: `Mix`, `Expand`, the zero guard and `SeedInit`
(`40_seed_expander.md` R100 to R104). -/

namespace Sys2Proof.Machine

/-- `z ^ (z >> k)`. -/
def xorShift (z : Word) (k : Nat) : Word := z ^^^ (z >>> k)

/-- `Mix(z)` (R100). -/
def mix (p : Params) (z : Word) : Word :=
  let z1 := xorShift z p.expSh1 * p.expM1
  let z2 := xorShift z1 p.expSh2 * p.expM2
  if p.expFinal then xorShift z2 p.expSh3 else z2

/-- `Expand(seed)`: four times, add `EXP_GAMMA` to the accumulator and output the mixed value (R102).
The `k`-th output is word `k` (R103). -/
def expand (p : Params) (seed : Word) : Quad :=
  let acc0 := seed + p.expGamma
  let acc1 := acc0 + p.expGamma
  let acc2 := acc1 + p.expGamma
  let acc3 := acc2 + p.expGamma
  ⟨mix p acc0, mix p acc1, mix p acc2, mix p acc3⟩

/-- The zero guard: if all four output words are zero, the fixed non-zero vector replaces them (R104). -/
def zeroGuard (p : Params) (e : Quad) : Quad :=
  if e.w0 = 0 ∧ e.w1 = 0 ∧ e.w2 = 0 ∧ e.w3 = 0 then p.fallback else e

/-- `SeedInit(seed)` (R104). -/
def seedInit (p : Params) (seed : Word) : Quad := zeroGuard p (expand p seed)

end Sys2Proof.Machine
end

