-- ==== Sys2Proof/Machine/State.lean ====
section
/-! DEFINITION. The state of one block instance (`10_state.md`), with the samples its input ports will take
(`30_encoding.md` R70), the reasons a step can stop, and the state after reset.  The block has no memory (R50). -/

namespace Sys2Proof.Machine

/-- `PHASE` (R27). -/
inductive Phase where
  /-- ready for a command -/
  | idle
  /-- executing an accepted command -/
  | exec
  /-- presenting a response -/
  | resp
deriving DecidableEq, Repr

/-- The sequencing position inside a command (R30): its start, the expander's loop over `K`, or the sampler's
loop.  It has a meaning only while `PHASE = EXEC`. -/
inductive ExecPos where
  | start
  | expanding
  | drawing
deriving DecidableEq, Repr

/-- What the host drives on the block's input ports at one step (R70). -/
structure PortSample where
  /-- `rst` -/
  rst : Bool
  /-- `cmd_valid` -/
  cmdValid : Bool
  /-- `cmd_op` -/
  cmdOp : Opcode
  /-- `cmd_arg` -/
  cmdArg : Word
  /-- `rsp_ready` -/
  rspReady : Bool
  /-- More than one requester drives the command port without an arbiter, which the spec has a model refuse
  (`20_memory.md` R61; `93_implementation_defined.md` U1, U2). -/
  contested : Bool
deriving DecidableEq, Repr

/-- A host that does nothing: no reset, no command offered, no response taken. -/
def PortSample.quiet : PortSample := ⟨false, false, 0, 0, false, false⟩

/-- One block instance.  Register names are the spec's. -/
structure State where
  /-- the build-time parameters, fixed for the life of the instance (R8, R32) -/
  cfg : Params
  /-- the generator state `S[0..3]` (R20) -/
  S : Quad
  /-- the expander's accumulator (R24) -/
  ACC : Word
  /-- the expander's step counter, 3 bits, 0..4 (R25, R36) -/
  K : BitVec 3
  /-- the expansion buffer `E[0..3]` (R25) -/
  E : Quad
  /-- the sampler's bound (R26) -/
  SB : Word
  /-- the sampler's threshold (R26) -/
  STH : Word
  /-- the limit of the portability fallback (R26) -/
  SLIM : Word
  /-- the phase of the handshake (R27) -/
  PHASE : Phase
  /-- the position inside the command being executed (R30) -/
  pos : ExecPos
  /-- the latched opcode (R28) -/
  OP_R : Opcode
  /-- the latched argument (R28) -/
  ARG_R : Word
  /-- the response status (R29) -/
  RSP_STATUS : StatusBits
  /-- the response data (R29) -/
  RSP_DATA : Word
  /-- the host's future port samples, the next step's first; past the end of the list the host is quiet.
  The model's own field (assumption log 5). -/
  ports : List PortSample
  /-- how many free values the run has used: the next unspecified register value is `Config.freeWord free`.
  The model's own field (assumption log 3). -/
  free : Nat
deriving DecidableEq, Repr

/-- Why the block stops. -/
inductive Fault where
  /-- Raised by a step in `PHASE = RESP` while `RSP_STATUS` is one of the reserved codes `0b10` and `0b11`:
  "`fault` in a model that would produce one: that model is wrong" (`93_implementation_defined.md` U10, R203).
  Safe: the machine stops; and no state that meets `Inv` (`Safety.lean`) raises it.  Assumption log 6. -/
  | reservedStatusPresented
deriving DecidableEq, Repr

/-- Why the model gives a step no meaning. -/
inductive Refusal where
  /-- Raised by `exec` alone, for a command that has no meaning yet.  Safe.  No arm uses it. -/
  | notModelled (mnemonic : String)
  /-- Raised by a step whose port sample is contested: two requesters drive one port without an arbiter, which
  the spec has a model refuse, as unmodelled (R61, U1, U2).  Safe.  Assumption log 7. -/
  | unarbitratedPort
deriving DecidableEq, Repr

/-- The block right after reset (R36, R230): `S = SeedInit(RESET_SEED)` and `PHASE = IDLE`.  Every other register
is unspecified there and holds 0, the value assumption log 8 names.  The host drives nothing. -/
def State.reset : State where
  cfg := Config.params
  S := seedInit Config.params Config.params.resetSeed
  ACC := 0
  K := 0
  E := Quad.zero
  SB := 0
  STH := 0
  SLIM := 0
  PHASE := .idle
  pos := .start
  OP_R := 0
  ARG_R := 0
  RSP_STATUS := 0
  RSP_DATA := 0
  ports := []
  free := 0

end Sys2Proof.Machine
end

