-- ==== Sys2Proof/Machine/Ops.lean ====
section
/-! DEFINITION. The named operations over the registers: `Next()`, `respond`, the ILLEGAL outcome, command acceptance,
response transfer, reset, the steps of the two internal loops, and the output ports. -/

namespace Sys2Proof.Machine

/-! ### Values the spec leaves unspecified -/

/-- Outside their live windows `ACC`, `K`, `E`, `SB`, `STH`, `SLIM`, `OP_R` and `ARG_R` are unspecified
(R24, R25, R26, R28; U8 "any value"): each takes a free value of its own, `K` one of its five (R36). -/
def releaseTransients (s : State) : State :=
  { s with
    ACC := Config.freeWord s.free
    K := BitVec.ofNat 3 ((Config.freeWord (s.free + 1)).toNat % 5)
    E := ⟨Config.freeWord (s.free + 2), Config.freeWord (s.free + 3), Config.freeWord (s.free + 4),
          Config.freeWord (s.free + 5)⟩
    SB := Config.freeWord (s.free + 6)
    STH := Config.freeWord (s.free + 7)
    SLIM := Config.freeWord (s.free + 8)
    OP_R := (Config.freeWord (s.free + 9)).setWidth 8
    ARG_R := Config.freeWord (s.free + 10)
    free := s.free + 11 }

/-- Outside `RESP` the response registers are unspecified (R29; U9 "any value"). -/
def releaseResponse (s : State) : State :=
  { s with
    RSP_STATUS := (Config.freeWord s.free).setWidth 2
    RSP_DATA := Config.freeWord (s.free + 1)
    free := s.free + 2 }

/-! ### The handshake -/

/-- `respond(st, d)` (R74, R13): the response registers are written, `PHASE <- RESP`, and the command is over, so its
transient registers are live no longer. -/
def respond (st : Status) (d : Word) (s : State) : State :=
  { releaseTransients s with RSP_STATUS := statusBits st, RSP_DATA := d, PHASE := .resp, pos := .start }

/-- The one error outcome, for an opcode that spells no command: `respond(ILLEGAL, 0)` and nothing else (R202).
It is what the block has in place of taking an exception: no state is saved and control goes nowhere (R206). -/
def illegalOutcome (s : State) : State := respond .illegal 0 s

/-- Command acceptance (R72). -/
def acceptCommand (op : Opcode) (arg : Word) (s : State) : State :=
  { s with OP_R := op, ARG_R := arg, PHASE := .exec, pos := .start }

/-- Response transfer (R75): `PHASE <- IDLE`.  It is also the return after an ILLEGAL response (R207). -/
def takeResponse (s : State) : State := { releaseResponse s with PHASE := .idle }

/-- A rising edge with `rst = 1` (R230, R231): `S <- SeedInit(RESET_SEED)`, `PHASE <- IDLE`, all other state
becomes unspecified. -/
def resetEdge (s : State) : State :=
  { releaseResponse (releaseTransients s) with
    S := seedInit s.cfg s.cfg.resetSeed, PHASE := .idle, pos := .start }

/-! ### The generator -/

/-- The value `Next()` returns, from the state before the update (R132). -/
def nextOutput (s : State) : Word := genOut s.S

/-- The state after `Next()`: `S` advanced by one step (R132). -/
def nextState (s : State) : State := { s with S := advance s.cfg s.S }

/-! ### The expander's loop -/

/-- The start of an expansion: `ACC <- seed`, before the first step (R102). -/
def expandStart (seed : Word) (s : State) : State := { s with ACC := seed, K := 0, pos := .expanding }

/-- One step of the loop of R102 for `k = K`: the accumulator advances, its new value is mixed into `E[K]`. -/
def expandIteration (s : State) : State :=
  { s with
    ACC := s.ACC + s.cfg.expGamma
    E := setQuad s.E s.K.toNat (mix s.cfg (s.ACC + s.cfg.expGamma))
    K := s.K + 1 }

/-- After the fourth output and the zero guard, `S` is written once, all four words (R104, R108). -/
def expandCommit (s : State) : State := { s with S := zeroGuard s.cfg s.E }

/-! ### The sampler's loop -/

/-- The setup step of the general path: `SB` and `STH`, or `SB` and `SLIM` (R164, R165, R167). -/
def sampleSetup (bound : Word) (s : State) : State :=
  match s.cfg.samplerAlg with
  | .lemire => { s with SB := bound, STH := threshold bound, pos := .drawing }
  | .modulo => { s with SB := bound, SLIM := sampleLimit bound, pos := .drawing }

/-- One iteration of the general path (R167): one `Next()` and one acceptance test.  The command responds with
`finish r` where the test accepts with `r`, and stays in `EXEC` where it rejects. -/
def sampleIteration (finish : Word → Word) (s : State) : State :=
  match loopTest s.cfg.samplerAlg s.SB s.STH s.SLIM (nextOutput s) with
  | some r => respond .ok (finish r) (nextState s)
  | none => nextState s

/-- The dispatch of R168 at the start of `Sample(bound)`: no draw for bound 0 (R162), one masked draw for a power of
two (R163), else the setup of the general path. -/
def sampleDispatch (finish : Word → Word) (bound : Word) (s : State) : State :=
  if bound = 0 then respond .ok (finish 0) s
  else if isPow2 bound then respond .ok (finish (maskDraw bound (nextOutput s))) (nextState s)
  else sampleSetup bound s

/-- `rsp_data` of the predicate `Sample(b) == 0`: 1 for true, 0 for false (R173, R174). -/
def oneInData (r : Word) : Word := if r = 0 then 1 else 0

/-! ### The ports -/

/-- What the host drives at the next step; a host with nothing more to drive is quiet. -/
def portNow (s : State) : PortSample := s.ports.headD PortSample.quiet

/-- The state with the next step's port sample consumed. -/
def dropPort (s : State) : State := { s with ports := s.ports.tail }

/-- `cmd_ready = 1` exactly when `PHASE = IDLE` and `rst = 0` (R73). -/
def cmdReady (s : State) (rst : Bool) : Bool := decide (s.PHASE = .idle) && !rst

/-- `rsp_valid = 1` exactly when `PHASE = RESP` (R74), and 0 while `rst = 1` (R232).  Assumption log 9. -/
def rspValid (s : State) (rst : Bool) : Bool := decide (s.PHASE = .resp) && !rst

/-- `rsp_status ∥ rsp_data` while `rsp_valid = 1`; the ports carry no meaning otherwise (R29, R74, U9). -/
def rspPort (s : State) (rst : Bool) : Option (StatusBits × Word) :=
  if rspValid s rst then some (s.RSP_STATUS, s.RSP_DATA) else none

/-! ### One step in `IDLE` and in `RESP`, with `rst = 0` -/

/-- In `IDLE` a command offered with `cmd_valid = 1` is accepted (R72); else the block does nothing (R214). -/
def idleStep (p : PortSample) (s : State) : State :=
  if p.cmdValid then acceptCommand p.cmdOp p.cmdArg s else s

/-- In `RESP` the response is taken where `rsp_ready = 1`; else the block stays in `RESP` and does nothing
else (R75).  A reserved status is a fault of the model (U10). -/
def respStep (p : PortSample) (s : State) : Host.Outcome State Fault Refusal :=
  if reservedStatus s.RSP_STATUS then .fault .reservedStatusPresented
  else if p.rspReady then .next (takeResponse s)
  else .next s

end Sys2Proof.Machine
end

