-- ==== Sys2Proof/Machine/Draw.lean ====
section
/-! DEFINITION. The draw commands DRAW64 and DRAW32 (`41_bit_generator.md` R135, R136). -/

namespace Sys2Proof.Machine

/-- `DRAW64`: `r <- Next()`, `respond(OK, r)` (R135). -/
def execDraw64 (s : State) : Host.Outcome State Fault Refusal :=
  .next (respond .ok (nextOutput s) (nextState s))

/-- `DRAW32`: `r <- Next()`, one full draw, `respond(OK, zext_64(r[63:32]))` (R136). -/
def execDraw32 (s : State) : Host.Outcome State Fault Refusal :=
  .next (respond .ok (upper32 (nextOutput s)) (nextState s))

end Sys2Proof.Machine
end

