-- ==== Sys2Proof/Machine/Sample.lean ====
section
/-! DEFINITION. The sampler's commands SAMPLE and ONEIN (`42_sampler.md` R168, R172 to R174). -/

namespace Sys2Proof.Machine

/-- `SAMPLE`: `r <- Sample(ARG_R)`, `respond(OK, r)` (R172).  On the general path each loop iteration is an internal
step of its own, with no cap (R166, R167). -/
def execSample (bound : Word) (s : State) : Host.Outcome State Fault Refusal :=
  if s.pos = .drawing then .next (sampleIteration id s)
  else .next (sampleDispatch id bound s)

/-- `ONEIN`: `p <- OneIn(ARG_R)`, `respond(OK, p ? 1 : 0)` (R174); true with no draw for `bound ≤ 1`, else
`Sample(bound) == 0` (R173). -/
def execOnein (bound : Word) (s : State) : Host.Outcome State Fault Refusal :=
  if s.pos = .drawing then .next (sampleIteration oneInData s)
  else if bound ≤ 1 then .next (respond .ok 1 s)
  else .next (sampleDispatch oneInData bound s)

end Sys2Proof.Machine
end

