-- ==== Sys2Proof/Machine/Seed.lean ====
section
/-! DEFINITION. The SEED command (`40_seed_expander.md` R107, R108). -/

namespace Sys2Proof.Machine

/-- `SEED`: `S <- SeedInit(ARG_R)`, then `respond(OK, 0)` (R107).  It follows R108's schedule of one internal step per
value of `K`, after a step that loads the accumulator and before one that applies the guard and writes `S`
(assumption log 10). -/
def execSeed (seed : Word) (s : State) : Host.Outcome State Fault Refusal :=
  if s.pos = .expanding then
    if s.K < 4 then .next (expandIteration s)
    else .next (respond .ok 0 (expandCommit s))
  else .next (expandStart seed s)

end Sys2Proof.Machine
end

