-- ==== Sys2Proof/Machine/Dispatch.lean ====
section
/-! DEFINITION. `exec`: one internal step of the command `i` in `PHASE = EXEC`, one arm per command. -/

namespace Sys2Proof.Machine

def exec (i : Instr) (s : State) : Host.Outcome State Fault Refusal :=
  match i with
  | .seed seed => Sys2Proof.Machine.execSeed seed s
  | .draw64 => Sys2Proof.Machine.execDraw64 s
  | .draw32 => Sys2Proof.Machine.execDraw32 s
  | .sample bound => Sys2Proof.Machine.execSample bound s
  | .onein bound => Sys2Proof.Machine.execOnein bound s

end Sys2Proof.Machine
end

