-- ==== Sys2Proof/Machine/Step.lean ====
section
/-! DEFINITION. One step of a block instance: a handshake edge or one internal step of the command being executed
(`30_encoding.md` R71 to R76, R80). -/

namespace Sys2Proof.Machine

/-- One internal step in `EXEC`: the latched opcode selects the command's rule, or the ILLEGAL outcome (R80). -/
def execStep (s : State) : Host.Outcome State Fault Refusal :=
  match decodeFields s.OP_R s.ARG_R with
  | .ok i => exec i s
  | .error _ => .next (illegalOutcome s)

/-- One step.  It consumes the host's next port sample `portNow s`.  Reset takes precedence over everything (R205);
a contested port is refused (R61); otherwise the phase decides. -/
def step (s : State) : Host.Outcome State Fault Refusal :=
  if (portNow s).rst then .next (resetEdge (dropPort s))
  else if (portNow s).contested then .refused .unarbitratedPort
  else
    match s.PHASE with
    | .idle => .next (idleStep (portNow s) (dropPort s))
    | .exec => execStep (dropPort s)
    | .resp => respStep (portNow s) (dropPort s)

/-- `s` with the command of the table word `w` just accepted, and a quiet host at the next step: the next step
decodes and runs exactly that command (assumption log 11). -/
def State.withFetchWord (s : State) (nbits w : Nat) : State :=
  { s with
    OP_R := commandOp (commandOfTable nbits w)
    ARG_R := commandArg (commandOfTable nbits w)
    PHASE := .exec
    pos := .start
    ports := PortSample.quiet :: s.ports }

end Sys2Proof.Machine
end

