-- ==== Sys2Proof/Machine/Assembler.lean ====
section
/-! DEFINITION. The assembler syntax and the pseudo-instruction `ONE_IN_<N>` (`30_encoding.md` R86, R87): a line, its
check and its command word; then reading a line from characters. -/

namespace Sys2Proof.Machine

/-- The mnemonics of R86. -/
inductive AsmOp where
  | seed
  | draw64
  | draw32
  | sample
  | onein
  /-- `ONE_IN_<N>` (R87) -/
  | oneIn (n : Nat)
deriving DecidableEq, Repr

/-- `mnemonic [operand]`, the operand a literal (R86). -/
structure AsmLine where
  op : AsmOp
  operand : Option Nat
deriving DecidableEq, Repr

/-- Why a line does not assemble (R86). -/
inductive AsmError where
  | unknownMnemonic
  | badLiteral
  | missingOperand
  | extraOperand
  | operandOutOfRange
deriving DecidableEq, Repr

/-- A literal as an argument: an operand outside 0..2^64−1 is an assembly error (R86). -/
def argumentLiteral (n : Nat) : Except AsmError Word :=
  if n < 2 ^ 64 then .ok (BitVec.ofNat 64 n) else .error .operandOutOfRange

/-- The command a line assembles to: SEED, SAMPLE and ONEIN take exactly one operand, DRAW64 and DRAW32 none (R86),
and `ONE_IN_<N>` is `ONEIN N` (R87). -/
def assembleLine (l : AsmLine) : Except AsmError Instr :=
  match l.op, l.operand with
  | .seed, some n => (argumentLiteral n).map .seed
  | .sample, some n => (argumentLiteral n).map .sample
  | .onein, some n => (argumentLiteral n).map .onein
  | .seed, none => .error .missingOperand
  | .sample, none => .error .missingOperand
  | .onein, none => .error .missingOperand
  | .draw64, none => .ok .draw64
  | .draw32, none => .ok .draw32
  | .draw64, some _ => .error .extraOperand
  | .draw32, some _ => .error .extraOperand
  | .oneIn n, none => (argumentLiteral n).map .onein
  | .oneIn _, some _ => .error .extraOperand

/-- The command word of a line (R77, R86). -/
def assembleWord (l : AsmLine) : Except AsmError Command := (assembleLine l).map encode

/-! ### Reading a line -/

/-- Words of a line stand apart by spaces or tabs (assumption log 12). -/
def blankChar (c : Char) : Bool := c == ' ' || c == '\t' || c == '\r'

/-- The words of a line; `cur` is the word being read, reversed. -/
def lineWords : List Char → List Char → List (List Char)
  | cur, [] => if cur.isEmpty then [] else [cur.reverse]
  | cur, c :: cs =>
    if blankChar c then
      if cur.isEmpty then lineWords [] cs else cur.reverse :: lineWords [] cs
    else lineWords (c :: cur) cs

/-- The value of a digit. -/
def digitValue (c : Char) : Option Nat :=
  if '0'.toNat ≤ c.toNat ∧ c.toNat ≤ '9'.toNat then some (c.toNat - '0'.toNat)
  else if 'a'.toNat ≤ c.toNat ∧ c.toNat ≤ 'f'.toNat then some (c.toNat - 'a'.toNat + 10)
  else if 'A'.toNat ≤ c.toNat ∧ c.toNat ≤ 'F'.toNat then some (c.toNat - 'A'.toNat + 10)
  else none

/-- Digits in the given base, onto the value read so far. -/
def readDigits (base : Nat) : Nat → List Char → Option Nat
  | acc, [] => some acc
  | acc, c :: cs =>
    match digitValue c with
    | some d => if d < base then readDigits base (acc * base + d) cs else none
    | none => none

/-- A literal of at least one digit. -/
def readNumber (base : Nat) (cs : List Char) : Option Nat :=
  if cs.isEmpty then none else readDigits base 0 cs

/-- A decimal literal, or `0x` and a hexadecimal literal (R86). -/
def readLiteral (cs : List Char) : Option Nat :=
  match cs with
  | '0' :: 'x' :: rest => readNumber 16 rest
  | _ => readNumber 10 cs

/-- The mnemonics are case-insensitive (R86); `N` of `ONE_IN_<N>` is a decimal literal (R87). -/
def readMnemonic (cs : List Char) : Except AsmError AsmOp :=
  match cs.map Char.toUpper with
  | ['S', 'E', 'E', 'D'] => .ok .seed
  | ['D', 'R', 'A', 'W', '6', '4'] => .ok .draw64
  | ['D', 'R', 'A', 'W', '3', '2'] => .ok .draw32
  | ['S', 'A', 'M', 'P', 'L', 'E'] => .ok .sample
  | ['O', 'N', 'E', 'I', 'N'] => .ok .onein
  | 'O' :: 'N' :: 'E' :: '_' :: 'I' :: 'N' :: '_' :: rest =>
    match readNumber 10 rest with
    | some n => .ok (.oneIn n)
    | none => .error .badLiteral
  | _ => .error .unknownMnemonic

/-- `line := [mnemonic [operand]] [';' comment]` (R86); `none` is a line with no command. -/
def readLine (cs : List Char) : Except AsmError (Option AsmLine) :=
  match lineWords [] (cs.takeWhile (· != ';')) with
  | [] => .ok none
  | [m] => (readMnemonic m).map (fun op => some ⟨op, none⟩)
  | [m, a] =>
    match readMnemonic m with
    | .error e => .error e
    | .ok op =>
      match readLiteral a with
      | some n => .ok (some ⟨op, some n⟩)
      | none => .error .badLiteral
  | _ => .error .extraOperand

/-- A line of text as a command word, or `none` where it holds no command (R86). -/
def assemble (cs : List Char) : Except AsmError (Option Command) :=
  match readLine cs with
  | .error e => .error e
  | .ok none => .ok none
  | .ok (some l) => (assembleWord l).map some

end Sys2Proof.Machine
end

