-- ==== Sys2Proof/Machine/Run.lean ====
section
/-! DEFINITION. Runs of one instance: repeated internal steps of a command, what the ports show at each step, and command
programs (`20_memory.md` R57, R58; `70_reset_and_hazards.md` R240).  Any bound on a number of steps stands here, outside
the machine, which has none (R166). -/

namespace Sys2Proof.Machine

/-- `n` internal steps of the command `i`. -/
def execTimes : Nat → Instr → State → Host.Outcome State Fault Refusal
  | 0, _, s => .next s
  | n + 1, i, s =>
    match exec i s with
    | .next t => execTimes n i t
    | .fault r => .fault r
    | .refused r => .refused r

/-- A response as the host takes it (R84). -/
structure Response where
  status : StatusBits
  data : Word
deriving DecidableEq, Repr

/-- What happens on the ports at one step. -/
inductive Event where
  /-- an edge with `rst = 1` (R230) -/
  | reset
  /-- a command is accepted (R72) -/
  | accepted (op : Opcode) (arg : Word)
  /-- a response is taken (R75) -/
  | responded (r : Response)
deriving DecidableEq, Repr

/-- The port event of the step from `s`, if any. -/
def eventOf (s : State) : Option Event :=
  if (portNow s).rst then some .reset
  else if (portNow s).contested then none
  else
    match s.PHASE with
    | .idle => if (portNow s).cmdValid then some (.accepted (portNow s).cmdOp (portNow s).cmdArg) else none
    | .exec => none
    | .resp => if (portNow s).rspReady then some (.responded ⟨s.RSP_STATUS, s.RSP_DATA⟩) else none

/-- The port events of the first `n` steps from `s`, in order, up to a stop. -/
def trace : Nat → State → List Event
  | 0, _ => []
  | n + 1, s =>
    (eventOf s).toList ++
      match step s with
      | .next t => trace n t
      | .fault _ => []
      | .refused _ => []

/-- Acceptances and responses alternate, `busy` saying whether a command is in flight; a reset abandons it
(R57, R58, R231). -/
def alternates : Bool → List Event → Bool
  | _, [] => true
  | _, .reset :: es => alternates false es
  | busy, .accepted _ _ :: es => !busy && alternates true es
  | busy, .responded _ :: es => busy && alternates false es

/-- A host that offers one command. -/
def offerCommand (op : Opcode) (arg : Word) : PortSample := ⟨false, true, op, arg, false, false⟩

/-- A host that takes the response. -/
def takeSample : PortSample := ⟨false, false, 0, 0, true, false⟩

/-- Internal steps, at most `fuel`, under a quiet host until the block presents a response. -/
def runToResponse : Nat → State → Option State
  | 0, s => if s.PHASE = .resp then some s else none
  | n + 1, s =>
    if s.PHASE = .resp then some s
    else
      match step { s with ports := [] } with
      | .next t => runToResponse n t
      | .fault _ => none
      | .refused _ => none

/-- One command of a program: offered, executed, its response taken (R240).  `none` if it does not end within
`fuel` internal steps. -/
def runCommand (fuel : Nat) (op : Opcode) (arg : Word) (s : State) : Option (State × Response) :=
  match step { s with ports := [offerCommand op arg] } with
  | .next s1 =>
    match runToResponse fuel s1 with
    | some s2 =>
      match step { s2 with ports := [takeSample] } with
      | .next s3 => some (s3, ⟨s2.RSP_STATUS, s2.RSP_DATA⟩)
      | .fault _ => none
      | .refused _ => none
    | none => none
  | .fault _ => none
  | .refused _ => none

/-- A command program: each command issued after the previous response has been taken; the end state and the list
of responses (R240). -/
def runProgram (fuel : Nat) : List (Opcode × Word) → State → Option (State × List Response)
  | [], s => some (s, [])
  | (op, arg) :: cs, s =>
    match runCommand fuel op arg s with
    | some (t, r) =>
      match runProgram fuel cs t with
      | some (u, rs) => some (u, r :: rs)
      | none => none
    | none => none

end Sys2Proof.Machine
end

