-- ==== Sys2Proof/Machine/System.lean ====
section
/-! DEFINITION. A system of `N_INST` independent block instances (`60_exceptions.md` R212, `10_state.md` R23): which
instance moves next is plain data, since no order exists between two instances (`20_memory.md` R59). -/

namespace Sys2Proof.Machine

/-- The instances, `N_INST` of them, and the order in which they move (assumption log 16).  DESIGN CHOICE: the instances
may be built with different parameters (assumption log 18). -/
structure System where
  insts : List State
  turn : List Nat
deriving DecidableEq, Repr

/-- `N_INST` is at least 1 (R8).  DESIGN CHOICE: nothing is asked of the instances' parameters, which may differ; the
spec does not say whether they may (assumption log 18). -/
def System.wf (y : System) : Bool := decide (1 ≤ y.insts.length)

/-- The instance whose turn it is takes one step of its own; a turn that names no instance passes. -/
def systemStep (y : System) : Host.Outcome System Fault Refusal :=
  match y.turn with
  | [] => .next y
  | k :: rest =>
    match y.insts[k]? with
    | none => .next { y with turn := rest }
    | some s =>
      match step s with
      | .next t => .next { insts := y.insts.set k t, turn := rest }
      | .fault r => .fault r
      | .refused r => .refused r

end Sys2Proof.Machine
end

