-- ==== Sys2Proof/Safety.lean ====
section
/-! DEFINITION. What claims about the machine are said in: how a command responds, the invariant of an instance, the
states it can reach, and when two states cannot be told apart at the ports. -/

namespace Sys2Proof.Machine

/-- The step is an ordinary one: no reset, and one requester at most drives the command port. -/
def ordinary (s : State) : Prop := (portNow s).rst = false ∧ (portNow s).contested = false

/-- The outcome `o` of a command run from `s` is its response `st, d`, with `q` in the generator state (R74).
Parameters and pending port samples stay; the transient registers are unspecified from here on (R24 to R28). -/
def Responds (o : Host.Outcome State Fault Refusal) (s : State) (st : StatusBits) (d : Word) (q : Quad) : Prop :=
  ∃ t, o = .next t ∧ t.PHASE = .resp ∧ t.RSP_STATUS = st ∧ t.RSP_DATA = d ∧ t.S = q ∧ t.cfg = s.cfg ∧ t.ports = s.ports

/-- An instance inside an expansion: the opcode is SEED's, `K` is at most 4, the accumulator and the outputs so far
are those of `Expand(ARG_R)` (R102). -/
def ExpandingInv (s : State) : Prop :=
  s.OP_R = 0x01 ∧ s.K.toNat ≤ 4 ∧ s.ACC = s.ARG_R + BitVec.ofNat 64 s.K.toNat * s.cfg.expGamma ∧
  ∀ j < s.K.toNat, getQuad s.E j = getQuad (expand s.cfg s.ARG_R) j

/-- An instance inside the sampler's loop: the opcode is SAMPLE's or ONEIN's, and the sampler's registers are set up
for a general-path bound, the command's own (R164, R165). -/
def DrawingInv (s : State) : Prop :=
  (s.OP_R = 0x04 ∨ s.OP_R = 0x05) ∧ s.SB = s.ARG_R ∧ generalBound s.SB = true ∧
  (s.cfg.samplerAlg = .lemire → s.STH = threshold s.SB) ∧ (s.cfg.samplerAlg = .modulo → s.SLIM = sampleLimit s.SB)

/-- The invariant of an instance: admissible parameters (R101), a generator state that is not all zero (R21), live
registers that hold what their command's rule wrote, and a presented status that is not reserved (R203). -/
structure Inv (s : State) : Prop where
  params : s.cfg.wf = true
  nonzero : s.S ≠ Quad.zero
  expanding : s.PHASE = .exec → s.pos = .expanding → ExpandingInv s
  drawing : s.PHASE = .exec → s.pos = .drawing → DrawingInv s
  status : s.PHASE = .resp → s.RSP_STATUS = statusBits .ok ∨ s.RSP_STATUS = statusBits .illegal

/-- The states an instance with parameters `p` reaches from its reset, whatever the host drives: the registers
the spec leaves unspecified at reset may hold anything (R36, R230). -/
inductive Reachable (p : Params) : State → Prop where
  | reset (s : State) : s.cfg = p → s.S = seedInit p p.resetSeed → s.PHASE = .idle → Reachable p s
  | step (s t : State) : Reachable p s → Sys2Proof.Machine.step s = .next t → Reachable p t

/-- Two states that agree on everything live, and may differ in every register that is not (R35): the parameters,
`S`, `PHASE` and the host's samples are the same, and so is what the phase makes live. -/
structure Alike (s t : State) : Prop where
  cfg : s.cfg = t.cfg
  gen : s.S = t.S
  phase : s.PHASE = t.PHASE
  ports : s.ports = t.ports
  command : s.PHASE = .exec → s.OP_R = t.OP_R ∧ s.ARG_R = t.ARG_R ∧ s.pos = t.pos
  expander : s.PHASE = .exec → s.pos = .expanding →
    s.ACC = t.ACC ∧ s.K = t.K ∧ ∀ j < s.K.toNat, j < 4 → getQuad s.E j = getQuad t.E j
  sampler : s.PHASE = .exec → s.pos = .drawing →
    s.SB = t.SB ∧ (s.cfg.samplerAlg = .lemire → s.STH = t.STH) ∧ (s.cfg.samplerAlg = .modulo → s.SLIM = t.SLIM)
  response : s.PHASE = .resp → s.RSP_STATUS = t.RSP_STATUS ∧ s.RSP_DATA = t.RSP_DATA

/-- Two outcomes that cannot be told apart: alike next states, or the same stop. -/
def alikeOutcomes : Host.Outcome State Fault Refusal → Host.Outcome State Fault Refusal → Prop
  | .next s, .next t => Alike s t
  | .fault a, .fault b => a = b
  | .refused a, .refused b => a = b
  | _, _ => False

/-- A safe step: the machine does not fault. -/
def safeStep (s : State) : Prop := ∀ r, step s ≠ .fault r

end Sys2Proof.Machine
end

