-- ==== Sys2Proof/Certificates/Slice0/Obligations.lean ====
section
/-! DEFINITION. What is claimed of the model, one `Prop` per statement.  Values the spec leaves unspecified are free
values (assumption log 3): no statement rests on one.  The block has no memory (`20_memory.md` R50), so no statement
speaks of it. -/

open Sys2Proof Sys2Proof.Machine

/-! ### Reset -/

/-- R36, R230: right after reset `S` is `SeedInit(RESET_SEED)`, `PHASE` is `IDLE`, and a command can be accepted. -/
def Obligations.ResetStateIsSeededAndIdle : Prop :=
  State.reset.S = seedInit State.reset.cfg State.reset.cfg.resetSeed ∧ State.reset.PHASE = .idle ∧
  cmdReady State.reset false = true ∧ ∀ r, rspValid State.reset r = false

/-- R231: an edge with `rst = 1`, in any phase, gives no response and leaves the reset value in `S`, whatever the
abandoned command had done. -/
def Obligations.ResetEdgeAbandonsCommand : Prop :=
  ∀ s : State, (portNow s).rst = true →
    rspValid s true = false ∧ eventOf s = some .reset ∧
    ∃ t, step s = .next t ∧ t.S = seedInit s.cfg s.cfg.resetSeed ∧ t.PHASE = .idle ∧
      (∀ r, rspValid t r = false) ∧ t.cfg = s.cfg ∧ t.ports = s.ports.tail

/-- R232: the first edge after reset finds the block idle, its expansion complete, and ready; it can accept a command.
While `rst = 1` neither `cmd_ready` nor `rsp_valid` is 1. -/
def Obligations.FirstEdgeAfterResetAcceptsCommand : Prop :=
  (∀ s : State, cmdReady s true = false ∧ rspValid s true = false) ∧
  ∀ s t : State, (portNow s).rst = true → step s = .next t →
    t.PHASE = .idle ∧ cmdReady t false = true ∧ t.S = seedInit s.cfg s.cfg.resetSeed ∧
    (ordinary t → (portNow t).cmdValid = true →
      ∃ u, step t = .next u ∧ u.PHASE = .exec ∧ u.OP_R = (portNow t).cmdOp ∧ u.ARG_R = (portNow t).cmdArg ∧ u.S = t.S)

/-- R230: with admissible parameters the state after reset is not all zero, so a DRAW before any SEED returns the value
the OPEN `RESET_SEED` determines. -/
def Obligations.DrawBeforeSeedIsDefined : Prop :=
  ∀ s t : State, s.cfg.wf = true → (portNow s).rst = true → step s = .next t →
    t.S ≠ Quad.zero ∧
    Responds (exec .draw64 t) t 0b00 (genOut (seedInit s.cfg s.cfg.resetSeed))
      (advance s.cfg (seedInit s.cfg s.cfg.resetSeed))

/-! ### The handshake -/

/-- R72: acceptance latches opcode and argument and enters `EXEC`, changing nothing else; `cmd_op` and `cmd_arg` on any
other edge have no effect.  The model's choices: that the registers unspecified there (`ACC`, `K`, `E`, `SB`, `STH`, `SLIM`,
`RSP_STATUS`, `RSP_DATA`) are kept (assumption log 3), and `pos` at the start (log 15). -/
def Obligations.AcceptanceLatchesCommand : Prop :=
  (∀ s : State, ordinary s → s.PHASE = .idle → (portNow s).cmdValid = true →
    cmdReady s false = true ∧
    step s = .next { s with OP_R := (portNow s).cmdOp, ARG_R := (portNow s).cmdArg, PHASE := .exec, pos := .start,
                            ports := s.ports.tail }) ∧
  (∀ (s : State) (p : PortSample) (rest : List PortSample) (op : Opcode) (arg : Word), s.ports = p :: rest →
    ¬ (p.rst = false ∧ s.PHASE = .idle ∧ p.cmdValid = true) →
    step { s with ports := { p with cmdOp := op, cmdArg := arg } :: rest } = step s)

/-- R73: `cmd_ready = 1` exactly in `IDLE` with `rst = 0`; nothing is accepted, and no latched command replaced, while a
command executes or its response waits. -/
def Obligations.CommandReadyExactlyWhenIdle : Prop :=
  (∀ (s : State) (r : Bool), cmdReady s r = true ↔ s.PHASE = .idle ∧ r = false) ∧
  (∀ (s : State) (op : Opcode) (arg : Word), eventOf s = some (.accepted op arg) → cmdReady s (portNow s).rst = true) ∧
  (∀ s t : State, step s = .next t → s.PHASE ≠ .idle → t.PHASE = .exec →
    s.PHASE = .exec ∧ t.OP_R = s.OP_R ∧ t.ARG_R = s.ARG_R)

/-- R74: `respond(st, d)` puts `st` and `d` on the response ports, which are driven exactly in `RESP` (with `rst = 0`)
and hold steady while the response is not taken. -/
def Obligations.ResponseIsPresentedAndHeld : Prop :=
  (∀ (st : Status) (d : Word) (s : State), rspPort (respond st d s) false = some (statusBits st, d)) ∧
  (∀ s : State, rspValid s false = true ↔ s.PHASE = .resp) ∧
  (∀ s t : State, ordinary s → s.PHASE = .resp → (portNow s).rspReady = false → step s = .next t →
    rspPort t false = rspPort s false)

/-- R75: the response is taken where `rsp_ready = 1`, and `PHASE <- IDLE`; where `rsp_ready = 0` the block stays in
`RESP` and does nothing else.  The premise on the status holds wherever `Inv` does.  That `ACC`, `K`, `E`, `SB`, `STH`,
`SLIM`, `OP_R` and `ARG_R`, unspecified there, are kept when the response is taken is the model's choice (assumption
log 3). -/
def Obligations.ResponseTransfer : Prop :=
  ∀ s : State, ordinary s → s.PHASE = .resp → reservedStatus s.RSP_STATUS = false →
    ((portNow s).rspReady = true →
      ∃ t, step s = .next t ∧ t.PHASE = .idle ∧ t.S = s.S ∧ t.cfg = s.cfg ∧ t.ports = s.ports.tail ∧
        t.ACC = s.ACC ∧ t.K = s.K ∧ t.E = s.E ∧ t.SB = s.SB ∧ t.STH = s.STH ∧ t.SLIM = s.SLIM ∧
        t.OP_R = s.OP_R ∧ t.ARG_R = s.ARG_R) ∧
    ((portNow s).rspReady = false → step s = .next { s with ports := s.ports.tail })

/-- R214: in `IDLE` the block does nothing until a command arrives. -/
def Obligations.IdleWaitsForCommand : Prop :=
  ∀ s : State, ordinary s → s.PHASE = .idle → (portNow s).cmdValid = false →
    step s = .next { s with ports := s.ports.tail }

/-- R61, U1, U2: a step is refused exactly where two requesters drive the port without an arbiter and no reset
overrides them.  How the model marks such a sample is its own choice (assumption log 7). -/
def Obligations.RefusedExactlyWhenUnarbitrated : Prop :=
  ∀ (s : State) (r : Refusal),
    step s = .refused r ↔ (portNow s).rst = false ∧ (portNow s).contested = true ∧ r = .unarbitratedPort

/-- U10: a step faults exactly where a reserved status would be presented.  That the model stops there by this fault is
its own choice (assumption log 6). -/
def Obligations.FaultsExactlyOnReservedStatus : Prop :=
  ∀ (s : State) (r : Fault),
    step s = .fault r ↔ ordinary s ∧ s.PHASE = .resp ∧ (s.RSP_STATUS = 0b10 ∨ s.RSP_STATUS = 0b11)

/-! ### Encoding -/

/-- R77 to R80: decoding the word of a command gives it back with its operand; a word that decodes has the command's
opcode, and is the command's word where the command reads its argument; no two commands share a word. -/
def Obligations.DecodeEncodeRoundTrip : Prop :=
  (∀ i : Instr, i.wf = true → decode (encode i) = .ok i) ∧
  (∀ (c : Command) (i : Instr), decode c = .ok i → commandOp c = opcodeOf i ∧ (readsArgument i = true → encode i = c)) ∧
  (∀ i j : Instr, encode i = encode j → i = j)

/-- R80: the decoder is total, each opcode value is one of the five commands or illegal, and the argument selects
nothing. -/
def Obligations.DecoderSelectsByOpcodeAlone : Prop :=
  (∀ (op : Opcode) (arg : Word), (∃ i, decodeFields op arg = .ok i) ↔ 1 ≤ op.toNat ∧ op.toNat ≤ 5) ∧
  (∀ (op : Opcode) (arg : Word) (i : Instr), decodeFields op arg = .ok i → opcodeOf i = op) ∧
  (∀ (op : Opcode) (arg : Word) (e : DecodeError), decodeFields op arg = .error e → e = .illegalOpcode op) ∧
  (∀ (op : Opcode) (a b : Word), (decodeFields op a).map opcodeOf = (decodeFields op b).map opcodeOf)

/-- R81: `0x00` and `0x06`..`0xFF` are 251 values, and each gives status ILLEGAL, data 0, no change to `S`, no draw. -/
def Obligations.IllegalOpcodesRespondIllegal : Prop :=
  (∀ s : State, ordinary s → s.PHASE = .exec → (s.OP_R.toNat = 0 ∨ 6 ≤ s.OP_R.toNat) →
    Responds (step s) (dropPort s) 0b01 0 s.S) ∧
  ((List.range 256).filter (fun n => decodeFields (BitVec.ofNat 8 n) 0 = .error (.illegalOpcode (BitVec.ofNat 8 n)))).length
    = 251

/-- V-ENC-1, V-ILL-1, V-GEN-8: some command words written out from R77 and R79. -/
def Obligations.WrittenOutWordsDecode : Prop :=
  decode 0x010000000000000539 = .ok (.seed 1337) ∧ decode 0x020000000000000000 = .ok .draw64 ∧
  decode 0x0300000000DEADBEEF = .ok .draw32 ∧ decode 0x048000000000000001 = .ok (.sample 0x8000000000000001) ∧
  decode 0x050000000000000064 = .ok (.onein 100) ∧ decode 0x7F0000000000000064 = .error (.illegalOpcode 0x7F)

/-- R71, R80: an ordinary step in `EXEC` runs the command the latched word decodes to, on the state with the port sample
consumed, or the ILLEGAL outcome; and a command placed by `withFetchWord` is the one the next step runs. -/
def Obligations.StepRunsDecodedCommand : Prop :=
  (∀ (s : State) (i : Instr), ordinary s → s.PHASE = .exec → decodeFields s.OP_R s.ARG_R = .ok i →
    step s = exec i { s with ports := s.ports.tail }) ∧
  (∀ (s : State) (e : DecodeError), ordinary s → s.PHASE = .exec → decodeFields s.OP_R s.ARG_R = .error e →
    step s = .next (illegalOutcome { s with ports := s.ports.tail })) ∧
  (∀ (s : State) (n w : Nat) (i : Instr), decodeTableWord n w = some i →
    step (s.withFetchWord n w) =
      exec i { s with OP_R := opcodeOf i, ARG_R := BitVec.ofNat 64 (w % 2 ^ n), PHASE := .exec, pos := .start })

/-- R78: DRAW64 and DRAW32 ignore `ARG_R`; any value has the same effect. -/
def Obligations.DrawsIgnoreArgument : Prop :=
  ∀ (s : State) (a b : Word), ordinary s → s.PHASE = .exec → (s.OP_R = 0x02 ∨ s.OP_R = 0x03) →
    step { s with ARG_R := a } = step { s with ARG_R := b }

/-- R86: SEED, SAMPLE and ONEIN take exactly one operand in 0..2^64−1, which becomes `ARG`; DRAW64 and DRAW32 take
none and have `ARG = 0`; anything else is an assembly error. -/
def Obligations.AssemblerOperandRules : Prop :=
  (∀ n, n < 2 ^ 64 →
    assembleWord ⟨.seed, some n⟩ = .ok (commandOf 0x01 (BitVec.ofNat 64 n)) ∧
    assembleWord ⟨.sample, some n⟩ = .ok (commandOf 0x04 (BitVec.ofNat 64 n)) ∧
    assembleWord ⟨.onein, some n⟩ = .ok (commandOf 0x05 (BitVec.ofNat 64 n))) ∧
  (∀ n, 2 ^ 64 ≤ n → ∀ op ∈ [AsmOp.seed, AsmOp.sample, AsmOp.onein],
    assembleWord ⟨op, some n⟩ = .error .operandOutOfRange) ∧
  (∀ op ∈ [AsmOp.seed, AsmOp.sample, AsmOp.onein], assembleWord ⟨op, none⟩ = .error .missingOperand) ∧
  assembleWord ⟨.draw64, none⟩ = .ok (commandOf 0x02 0) ∧ assembleWord ⟨.draw32, none⟩ = .ok (commandOf 0x03 0) ∧
  (∀ n, ∀ op ∈ [AsmOp.draw64, AsmOp.draw32], assembleWord ⟨op, some n⟩ = .error .extraOperand)

/-- R87: `ONE_IN_<N>` expands to `ONEIN N` for every `N` in 0..2^64−1, and to no command past it. -/
def Obligations.OneInPseudoExpandsToOnein : Prop :=
  (∀ n, n < 2 ^ 64 →
    assembleLine ⟨.oneIn n, none⟩ = .ok (.onein (BitVec.ofNat 64 n)) ∧
    assembleWord ⟨.oneIn n, none⟩ = .ok (commandOf 0x05 (BitVec.ofNat 64 n))) ∧
  (∀ n, 2 ^ 64 ≤ n → assembleWord ⟨.oneIn n, none⟩ = .error .operandOutOfRange) ∧
  readMnemonic ['O', 'N', 'E', '_', 'I', 'N', '_', '1', '0', '0'] = .ok (.oneIn 100) ∧
  readMnemonic ['O', 'N', 'E', '_', 'I', 'N', '_', '2'] = .ok (.oneIn 2)

/-! ### Seed expander -/

/-- R100, R105 step 1: for admissible parameters `Mix` is a bijection on u64. -/
def Obligations.MixIsBijective : Prop :=
  ∀ p : Params, p.wf = true → Function.Bijective (mix p)

/-- R102, R103: the closed form of the expansion, output `k` being word `k`. -/
def Obligations.ExpandClosedForm : Prop :=
  ∀ (p : Params) (seed : Word) (k : Nat), k < 4 →
    getQuad (expand p seed) k = mix p (seed + BitVec.ofNat 64 (k + 1) * p.expGamma)

/-- R104: the zero guard replaces an all-zero expansion, and only that, by `FALLBACK_STATE`, which is not all zero. -/
def Obligations.ZeroGuardSubstitutesFallback : Prop :=
  ∀ (p : Params) (seed : Word),
    (expand p seed = Quad.zero → seedInit p seed = p.fallback) ∧
    (expand p seed ≠ Quad.zero → seedInit p seed = expand p seed) ∧
    (p.fallback ≠ Quad.zero → seedInit p seed ≠ Quad.zero)

/-- R105: for every seed and all admissible parameters `Mix` has exactly one zero, the four words it mixes are
pairwise distinct, so at most one expansion output is zero; the guard never fires and `FALLBACK_STATE` is never
observed. -/
def Obligations.ZeroGuardNeverFires : Prop :=
  ∀ (p : Params) (seed : Word), p.wf = true →
    (∃! z, mix p z = 0) ∧
    (∀ j k, j < 4 → k < 4 → seed + BitVec.ofNat 64 (j + 1) * p.expGamma = seed + BitVec.ofNat 64 (k + 1) * p.expGamma →
      j = k) ∧
    (∀ j k, j < 4 → k < 4 → getQuad (expand p seed) j = 0 → getQuad (expand p seed) k = 0 → j = k) ∧
    expand p seed ≠ Quad.zero ∧ seedInit p seed = expand p seed ∧
    ∀ q : Quad, seedInit { p with fallback := q } seed = seedInit p seed

/-- R102, R108: what each internal step of SEED does, and its frame; `S` is written only by the last.  The schedule is
the model's (assumption log 10), and so is the frame of registers outside their live windows (`SB`, `STH`, `SLIM`,
`RSP_STATUS`, `RSP_DATA`; assumption log 3). -/
def Obligations.SeedInternalSteps : Prop :=
  ∀ (s : State) (seed : Word),
    (s.pos ≠ .expanding → exec (.seed seed) s = .next { s with ACC := seed, K := 0, pos := .expanding }) ∧
    (s.pos = .expanding → s.K.toNat < 4 →
      exec (.seed seed) s =
        .next { s with ACC := s.ACC + s.cfg.expGamma, K := s.K + 1,
                       E := setQuad s.E s.K.toNat (mix s.cfg (s.ACC + s.cfg.expGamma)) }) ∧
    (s.pos = .expanding → 4 ≤ s.K.toNat → Responds (exec (.seed seed) s) s 0b00 0 (zeroGuard s.cfg s.E))

/-- R107, R108: from its start SEED responds `OK, 0` with `SeedInit(seed)` in `S`, whatever `S` was; before it
responds `S` keeps the old words and the phase does not change.  The schedule of six steps, which R108 leaves open, is
the model's choice (assumption log 10). -/
def Obligations.SeedWritesSeedInit : Prop :=
  (∀ (s : State) (seed : Word), s.pos = .start →
    Responds (execTimes 6 (.seed seed) s) s 0b00 0 (seedInit s.cfg seed) ∧
    ∀ n, n < 6 → ∃ u, execTimes n (.seed seed) s = .next u ∧ u.S = s.S ∧ u.PHASE = s.PHASE) ∧
  (∀ seed : Word, decodeFields 0x01 seed = .ok (.seed seed)) ∧
  seedInit Config.params 1337 =
    ⟨0xB6A8A9B313CAA00B, 0xCB7F284B67D605C9, 0x3440FCCF54082B5A, 0x77026DC1FEEFC262⟩

/-! ### Bit generator -/

/-- R131: the transition in terms of the old words. -/
def Obligations.AdvanceFromOldWords : Prop :=
  ∀ (p : Params) (q : Quad),
    (advance p q).w0 = q.w0 ^^^ q.w3 ^^^ q.w1 ∧ (advance p q).w1 = q.w1 ^^^ q.w2 ^^^ q.w0 ∧
    (advance p q).w2 = q.w2 ^^^ q.w0 ^^^ (q.w1 <<< p.genA) ∧ (advance p q).w3 = rotl64 (q.w3 ^^^ q.w1) p.genB

/-- R133: `Advance` is a bijection that fixes the all-zero state, from which every output is 0, and maps every non-zero
state to a non-zero state. -/
def Obligations.AdvanceIsBijection : Prop :=
  ∀ p : Params, p.wf = true →
    Function.Bijective (advance p) ∧ advance p Quad.zero = Quad.zero ∧
    (∀ q : Quad, q ≠ Quad.zero → advance p q ≠ Quad.zero) ∧ ∀ n, drawAt p n Quad.zero = 0

/-- R137: the output depends on `S[1]` alone, is a bijection of it, and is 0 exactly when `S[1]` is; DRAW64 and
DRAW32 leave the same `S`. -/
def Obligations.OutputLaws : Prop :=
  (∀ q r : Quad, q.w1 = r.w1 → genOut q = genOut r) ∧
  Function.Bijective (fun w : Word => genOut ⟨0, w, 0, 0⟩) ∧
  (∀ q : Quad, genOut q = 0 ↔ q.w1 = 0) ∧
  (∀ s t u : State, exec .draw64 s = .next t → exec .draw32 s = .next u → t.S = u.S)

/-- R135: DRAW64 responds `OK` with the output of one generator step and leaves the advanced state, in every state and
for every argument. -/
def Obligations.Draw64ReturnsDraw : Prop :=
  (∀ s : State, Responds (exec .draw64 s) s 0b00 (rotl64 (s.S.w1 * 5) 7 * 9) (advance s.cfg s.S)) ∧
  (∀ s : State, s.S.w1 = 0 → Responds (exec .draw64 s) s 0b00 0 (advance s.cfg s.S)) ∧
  (∀ arg : Word, decodeFields 0x02 arg = .ok .draw64) ∧
  genOut (seedInit Config.params 1337) = 0xAD0AA0A04F822EDC

/-- R136: DRAW32 consumes one whole generator step and responds `OK` with the upper 32 bits of the draw, zero-extended. -/
def Obligations.Draw32ReturnsUpperHalf : Prop :=
  (∀ s : State, ∃ d : Word, d.toNat = (genOut s.S).toNat / 2 ^ 32 ∧
    Responds (exec .draw32 s) s 0b00 d (advance s.cfg s.S)) ∧
  (∀ arg : Word, decodeFields 0x03 arg = .ok .draw32) ∧
  upper32 (drawAt Config.params 1 (seedInit Config.params 1337)) = 0x00000000D0815851

/-! ### Unbiased sampler: decisions -/

/-- R160: `IsPow2(b)` holds exactly when `b ≠ 0` and `(b & (b − 1)) == 0`, that is for `b = 2^k` with `k` in 0..63, and
`b − 1` is then the mask of the low `k` bits. -/
def Obligations.IsPow2Characterised : Prop :=
  (∀ b : Word, isPow2 b = true ↔ b ≠ 0 ∧ b &&& (b - 1) = 0) ∧
  (∀ b : Word, isPow2 b = true ↔ ∃ k, k < 64 ∧ b.toNat = 2 ^ k) ∧
  (∀ (b : Word) (k : Nat), k < 64 → b.toNat = 2 ^ k → (b - 1).toNat = 2 ^ k - 1)

/-- R161: for `b ≥ 1` the threshold is `(2^64 − b) mod b = 2^64 mod b`, lies below `b`, and is 0 exactly for powers of
two. -/
def Obligations.ThresholdLaws : Prop :=
  ∀ b : Word, b ≠ 0 →
    (threshold b).toNat = (2 ^ 64 - b.toNat) % b.toNat ∧ (threshold b).toNat = 2 ^ 64 % b.toNat ∧ threshold b < b ∧
    (threshold b = 0 ↔ isPow2 b = true) ∧ (generalBound b = true → 1 ≤ threshold b ∧ 3 ≤ b)

/-- R165: on the general path `SLIM` is `floor(2^64 / b) * b`, without losing the 2^64 term, and equals
`2^64 − Threshold(b)`. -/
def Obligations.LimitIsExact : Prop :=
  ∀ b : Word, generalBound b = true →
    (sampleLimit b).toNat = 2 ^ 64 / b.toNat * b.toNat ∧
    (sampleLimit b).toNat = 2 ^ 64 - (threshold b).toNat ∧ 2 ^ 64 - b.toNat + 1 ≤ (sampleLimit b).toNat

/-- R164, R165: what each algorithm decides about one draw, on exact integers. -/
def Obligations.AcceptanceOnExactIntegers : Prop :=
  ∀ b x r : Word, generalBound b = true →
    (judgeDraw .lemire b x = some r ↔
      2 ^ 64 % b.toNat ≤ x.toNat * b.toNat % 2 ^ 64 ∧ r.toNat = x.toNat * b.toNat / 2 ^ 64) ∧
    (judgeDraw .modulo b x = some r ↔ x.toNat < 2 ^ 64 / b.toNat * b.toNat ∧ r.toNat = x.toNat % b.toNat)

/-- R169: the range of every result; LEMIRE always rejects a draw of 0 and MODULO always accepts it; the early test of
Lemire's published form decides as the threshold does. -/
def Obligations.SamplerLaws : Prop :=
  (∀ b x : Word, isPow2 b = true → maskDraw b x < b) ∧
  (∀ (alg : SamplerAlg) (b x r : Word), generalBound b = true → judgeDraw alg b x = some r → r < b) ∧
  (∀ b : Word, generalBound b = true → judgeDraw .lemire b 0 = none ∧ judgeDraw .modulo b 0 = some 0) ∧
  (∀ b x : Word, generalBound b = true → b ≤ lo64 (mul128 x b) → judgeDraw .lemire b x = some (hi64 (mul128 x b)))

/-- R170: on the general path both algorithms reject exactly `Threshold(b)` of the 2^64 draw values, and accept every
result below `b` from exactly `2^64 div b` draw values. -/
def Obligations.AcceptanceIsUniform : Prop :=
  ∀ (alg : SamplerAlg) (b : Word), generalBound b = true →
    Set.ncard {x : Word | judgeDraw alg b x = none} = (threshold b).toNat ∧
    ∀ r : Word, r < b → Set.ncard {x : Word | judgeDraw alg b x = some r} = 2 ^ 64 / b.toNat

/-! ### Unbiased sampler: commands -/

/-- R162, R173, R201: a degenerate bound is a value, not an error: SAMPLE with bound 0 responds `OK, 0`, and ONEIN with
bound 0 or 1 responds `OK, 1`, with no draw. -/
def Obligations.DegenerateBoundsMakeNoDraw : Prop :=
  (∀ s : State, s.pos = .start → Responds (exec (.sample 0) s) s 0b00 0 s.S) ∧
  (∀ (s : State) (b : Word), s.pos = .start → b.toNat ≤ 1 → Responds (exec (.onein b) s) s 0b00 1 s.S)

/-- R163: SAMPLE with a power of two masks exactly one draw; bound 1 gives 0 and bound 2^63 the low 63 bits. -/
def Obligations.SamplePowerOfTwoMasksOneDraw : Prop :=
  ∀ s : State, s.pos = .start →
    (∀ b : Word, isPow2 b = true → Responds (exec (.sample b) s) s 0b00 (genOut s.S &&& (b - 1)) (advance s.cfg s.S)) ∧
    Responds (exec (.sample 1) s) s 0b00 0 (advance s.cfg s.S) ∧
    ∃ d : Word, d.toNat = (genOut s.S).toNat % 2 ^ 63 ∧
      Responds (exec (.sample 0x8000000000000000) s) s 0b00 d (advance s.cfg s.S)

/-- R164, R165, R167: the setup step of the general path, the same for SAMPLE and ONEIN, and its frame.
The frame of registers outside their live windows is the model's (assumption log 3). -/
def Obligations.GeneralPathSetup : Prop :=
  ∀ (s : State) (b : Word) (i : Instr), i = .sample b ∨ i = .onein b → s.pos = .start → generalBound b = true →
    (s.cfg.samplerAlg = .lemire → exec i s = .next { s with SB := b, STH := threshold b, pos := .drawing }) ∧
    (s.cfg.samplerAlg = .modulo → exec i s = .next { s with SB := b, SLIM := sampleLimit b, pos := .drawing })

/-- R167: one iteration of the loop makes one draw and one test; where the test rejects, nothing but `S` changes, and
where it accepts the command responds.
The frame of registers outside their live windows is the model's (assumption log 3). -/
def Obligations.LoopIteration : Prop :=
  ∀ (s : State) (b : Word), s.pos = .drawing →
    (∀ i : Instr, i = .sample b ∨ i = .onein b →
      loopTest s.cfg.samplerAlg s.SB s.STH s.SLIM (genOut s.S) = none →
      exec i s = .next { s with S := advance s.cfg s.S }) ∧
    (∀ r : Word, loopTest s.cfg.samplerAlg s.SB s.STH s.SLIM (genOut s.S) = some r →
      Responds (exec (.sample b) s) s 0b00 r (advance s.cfg s.S) ∧
      Responds (exec (.onein b) s) s 0b00 (if r = 0 then 1 else 0) (advance s.cfg s.S))

/-- R164, R165, R172: on the general path SAMPLE responds with the decision about the first draw that is accepted,
having made exactly the draws up to it, under either algorithm. -/
def Obligations.SampleReturnsFirstAcceptedDraw : Prop :=
  ∀ (s : State) (b r : Word) (n : Nat), s.pos = .start → generalBound b = true →
    (∀ m, m < n → judgeDraw s.cfg.samplerAlg b (drawAt s.cfg m s.S) = none) →
    judgeDraw s.cfg.samplerAlg b (drawAt s.cfg n s.S) = some r →
    Responds (execTimes (n + 2) (.sample b) s) s 0b00 r (advanceBy s.cfg (n + 1) s.S)

/-- R166, R167: while no draw is accepted SAMPLE and ONEIN stay in `EXEC`, one draw an iteration, however many there
are; nothing caps them.
The frame of registers outside their live windows is the model's (assumption log 3). -/
def Obligations.RejectedDrawsKeepExecuting : Prop :=
  ∀ (s : State) (b : Word) (n : Nat) (i : Instr), i = .sample b ∨ i = .onein b → s.pos = .start →
    generalBound b = true → (∀ m, m < n → judgeDraw s.cfg.samplerAlg b (drawAt s.cfg m s.S) = none) →
    ∃ t, execTimes (n + 1) i s = .next t ∧ t.PHASE = s.PHASE ∧ t.S = advanceBy s.cfg n s.S ∧ t.pos = .drawing ∧
      t.SB = b ∧ t.OP_R = s.OP_R ∧ t.ARG_R = s.ARG_R ∧ t.ACC = s.ACC ∧ t.K = s.K ∧ t.E = s.E ∧
      t.RSP_STATUS = s.RSP_STATUS ∧ t.RSP_DATA = s.RSP_DATA ∧ t.cfg = s.cfg ∧ t.ports = s.ports

/-- R163, R173, R174: ONEIN with a power of two from 2 on makes one draw and responds 1 exactly when the draw's low bits
are all zero. -/
def Obligations.OneinPowerOfTwoTestsLowBits : Prop :=
  ∀ (s : State) (b : Word) (k : Nat), s.pos = .start → 1 ≤ k → k < 64 → b.toNat = 2 ^ k →
    ∃ d : Word, (d = 1 ∨ d = 0) ∧ (d = 1 ↔ (genOut s.S).toNat % 2 ^ k = 0) ∧
      Responds (exec (.onein b) s) s 0b00 d (advance s.cfg s.S)

/-- R173, R174: on the general path ONEIN responds 1 exactly when the first accepted draw samples to 0, having made the
draws SAMPLE would make. -/
def Obligations.OneinTestsFirstAcceptedDraw : Prop :=
  ∀ (s : State) (b r : Word) (n : Nat), s.pos = .start → generalBound b = true →
    (∀ m, m < n → judgeDraw s.cfg.samplerAlg b (drawAt s.cfg m s.S) = none) →
    judgeDraw s.cfg.samplerAlg b (drawAt s.cfg n s.S) = some r →
    Responds (execTimes (n + 2) (.onein b) s) s 0b00 (if r = 0 then 1 else 0) (advanceBy s.cfg (n + 1) s.S)

/-- R169, R172: in every state that meets the invariant, a response to SAMPLE is below its bound, or 0 for bound 0. -/
def Obligations.SampleResponseIsInRange : Prop :=
  ∀ s t : State, Inv s → ordinary s → s.PHASE = .exec → s.OP_R = 0x04 → step s = .next t → t.PHASE = .resp →
    (s.ARG_R ≠ 0 → t.RSP_DATA < s.ARG_R) ∧ (s.ARG_R = 0 → t.RSP_DATA = 0)

/-! ### The whole machine -/

/-- R85, R200: a legal command always responds `OK`, whatever its argument and the state; an illegal one never does. -/
def Obligations.LegalCommandsAlwaysRespondOk : Prop :=
  ∀ s t : State, ordinary s → s.PHASE = .exec → step s = .next t → t.PHASE = .resp →
    (t.RSP_STATUS = 0b00 ↔ 1 ≤ s.OP_R.toNat ∧ s.OP_R.toNat ≤ 5) ∧
    (t.RSP_STATUS = 0b01 ↔ s.OP_R.toNat = 0 ∨ 6 ≤ s.OP_R.toNat)

/-- R203, U10: in every reachable state a presented status is `OK` or `ILLEGAL`, never a reserved code, and no step
faults. -/
def Obligations.ReservedStatusNeverProduced : Prop :=
  ∀ (p : Params) (s : State), Reachable p s →
    (s.PHASE = .resp → s.RSP_STATUS ≠ 0b10 ∧ s.RSP_STATUS ≠ 0b11) ∧ safeStep s

/-- The invariant holds right after reset. -/
def Obligations.ResetMeetsInvariant : Prop := Inv State.reset

/-- The invariant of an instance is kept by every step, a reset edge and a general-path iteration included. -/
def Obligations.StepKeepsInvariant : Prop :=
  ∀ s t : State, Inv s → step s = .next t → Inv t

/-- R21: SEED and reset establish a non-zero `S`, `Next()` preserves it, every step keeps it, and it holds in every
reachable state. -/
def Obligations.GeneratorStateIsNeverZero : Prop :=
  (∀ (p : Params) (seed : Word), p.wf = true → seedInit p seed ≠ Quad.zero) ∧
  (∀ (p : Params) (q : Quad), p.wf = true → q ≠ Quad.zero → advance p q ≠ Quad.zero) ∧
  (∀ s t : State, s.cfg.wf = true → s.S ≠ Quad.zero → step s = .next t → t.S ≠ Quad.zero) ∧
  (∀ (p : Params) (s : State), p.wf = true → Reachable p s → s.S ≠ Quad.zero)

/-- R22: only reset, the end of SEED, and draws of DRAW64, DRAW32, SAMPLE and ONEIN change `S`, each as its rule says. -/
def Obligations.OnlyDrawsSeedAndResetWriteS : Prop :=
  ∀ s t : State, Inv s → step s = .next t →
    t.S = s.S ∨
    ((portNow s).rst = true ∧ t.S = seedInit s.cfg s.cfg.resetSeed) ∨
    (ordinary s ∧ s.PHASE = .exec ∧ s.OP_R = 0x01 ∧ t.PHASE = .resp ∧ t.S = seedInit s.cfg s.ARG_R) ∨
    (ordinary s ∧ s.PHASE = .exec ∧ (s.OP_R = 0x02 ∨ s.OP_R = 0x03 ∨ s.OP_R = 0x04 ∨ s.OP_R = 0x05) ∧
      t.S = advance s.cfg s.S)

/-- R32: no step changes a parameter; every step consumes one port sample (the model's own form of the host,
assumption log 5). -/
def Obligations.ParametersAreFixed : Prop :=
  ∀ s t : State, step s = .next t → t.cfg = s.cfg ∧ t.ports = s.ports.tail

/-- R200, R166: from a state that meets the invariant, and on a port one requester drives, every step answers a next
state. -/
def Obligations.AdmittedStepsAlwaysContinue : Prop :=
  ∀ s : State, Inv s → ((portNow s).rst = true ∨ (portNow s).contested = false) → ∃ t, step s = .next t

/-- R35: no rule reads a register left over from an earlier command.  States that agree on what is live cannot be told
apart: one step gives alike states and the same port event. -/
def Obligations.LeftoverRegistersAreNeverRead : Prop :=
  ∀ s t : State, Alike s t →
    alikeOutcomes (step s) (step t) ∧ eventOf s = eventOf t ∧
    ∀ r, cmdReady s r = cmdReady t r ∧ rspPort s r = rspPort t r

/-- R57, R58: on one instance acceptances and responses alternate, over any run and whatever the host drives, but for a
command cut off by reset. -/
def Obligations.AcceptancesAndResponsesAlternate : Prop :=
  ∀ (n : Nat) (s : State), alternates (decide (s.PHASE ≠ .idle)) (trace n s) = true

/-- R109, R240: two runs of commands that open with the same SEED give the same responses and the same final `S`,
whatever state each began in, whatever its transient registers hold, however long each command took.  Two instances need not have the same parameters
(assumption log 18), so that they do is a premise. -/
def Obligations.ReseedingReproducesResponses : Prop :=
  ∀ (s t u v : State) (f g : Nat) (seed : Word) (cs : List (Opcode × Word)) (rs rs' : List Response),
    s.cfg = t.cfg → s.PHASE = .idle → t.PHASE = .idle →
    runProgram f ((0x01, seed) :: cs) s = some (u, rs) → runProgram g ((0x01, seed) :: cs) t = some (v, rs') →
    rs = rs' ∧ u.S = v.S

/-- R54, R109: SEED is idempotent. -/
def Obligations.SeedIsIdempotent : Prop :=
  ∀ (s : State) (seed : Word), s.PHASE = .idle →
    ∃ t u r, runCommand 6 0x01 seed s = some (t, r) ∧ runCommand 6 0x01 seed t = some (u, r) ∧ u.S = t.S

/-- R72, R75, R107, R135, R136, R162, R163, R173, R202: offered to an idle block, each command that does not loop ends
with its response taken and the block idle again. -/
def Obligations.CommandsCompleteThroughThePorts : Prop :=
  ∀ (s : State) (op : Opcode) (arg : Word) (fuel : Nat), s.PHASE = .idle → 6 ≤ fuel →
    (op = 0x04 → generalBound arg = false) → (op = 0x05 → generalBound arg = false) →
    ∃ t r, runCommand fuel op arg s = some (t, r) ∧ t.PHASE = .idle ∧ t.cfg = s.cfg ∧
      (op = 0x01 → r = ⟨0b00, 0⟩ ∧ t.S = seedInit s.cfg arg) ∧
      (op = 0x02 → r = ⟨0b00, genOut s.S⟩ ∧ t.S = advance s.cfg s.S) ∧
      (op = 0x03 → r = ⟨0b00, upper32 (genOut s.S)⟩ ∧ t.S = advance s.cfg s.S) ∧
      (op = 0x04 → arg = 0 → r = ⟨0b00, 0⟩ ∧ t.S = s.S) ∧
      (op = 0x04 → isPow2 arg = true → r = ⟨0b00, genOut s.S &&& (arg - 1)⟩ ∧ t.S = advance s.cfg s.S) ∧
      (op = 0x05 → arg.toNat ≤ 1 → r = ⟨0b00, 1⟩ ∧ t.S = s.S) ∧
      (op = 0x05 → 2 ≤ arg.toNat → isPow2 arg = true →
        r = ⟨0b00, if genOut s.S &&& (arg - 1) = 0 then 1 else 0⟩ ∧ t.S = advance s.cfg s.S) ∧
      (op.toNat = 0 ∨ 6 ≤ op.toNat → r = ⟨0b01, 0⟩ ∧ t.S = s.S)

/-- R23, R212: a step of one instance of a system is that instance's own step, and leaves every other instance as it
was. -/
def Obligations.InstancesShareNothing : Prop :=
  ∀ (y z : System) (k : Nat) (rest : List Nat), y.turn = k :: rest → systemStep y = .next z →
    z.turn = rest ∧ z.insts.length = y.insts.length ∧ (∀ j, j ≠ k → z.insts[j]? = y.insts[j]?) ∧
    ∀ s, y.insts[k]? = some s → ∃ t, step s = .next t ∧ z.insts[k]? = some t

/-- R59: no order exists between two instances; their steps commute. -/
def Obligations.InstanceStepsCommute : Prop :=
  ∀ (l : List State) (j k : Nat) (rest : List Nat) (y z : System), j ≠ k →
    systemStep ⟨l, j :: k :: rest⟩ = .next y → systemStep y = .next z →
    ∃ y', systemStep ⟨l, k :: j :: rest⟩ = .next y' ∧ systemStep y' = .next z
end

