-- ==== Sys2Proof/Laws/State.lean ====
section
/-! SUPPORT. What each named operation leaves in each field of the state; the fields it releases to a free value have
no lemma, since nothing is to be proved of them. -/

namespace Sys2Proof.Machine

variable (s : State)


/-! ### `releaseTransients` -/

@[simp] theorem releaseTransients_cfg : (releaseTransients s).cfg = s.cfg := rfl
@[simp] theorem releaseTransients_S : (releaseTransients s).S = s.S := rfl
@[simp] theorem releaseTransients_PHASE : (releaseTransients s).PHASE = s.PHASE := rfl
@[simp] theorem releaseTransients_pos : (releaseTransients s).pos = s.pos := rfl
@[simp] theorem releaseTransients_RSP_STATUS : (releaseTransients s).RSP_STATUS = s.RSP_STATUS := rfl
@[simp] theorem releaseTransients_RSP_DATA : (releaseTransients s).RSP_DATA = s.RSP_DATA := rfl
@[simp] theorem releaseTransients_ports : (releaseTransients s).ports = s.ports := rfl

/-! ### `releaseResponse` -/

@[simp] theorem releaseResponse_cfg : (releaseResponse s).cfg = s.cfg := rfl
@[simp] theorem releaseResponse_S : (releaseResponse s).S = s.S := rfl
@[simp] theorem releaseResponse_ACC : (releaseResponse s).ACC = s.ACC := rfl
@[simp] theorem releaseResponse_K : (releaseResponse s).K = s.K := rfl
@[simp] theorem releaseResponse_E : (releaseResponse s).E = s.E := rfl
@[simp] theorem releaseResponse_SB : (releaseResponse s).SB = s.SB := rfl
@[simp] theorem releaseResponse_STH : (releaseResponse s).STH = s.STH := rfl
@[simp] theorem releaseResponse_SLIM : (releaseResponse s).SLIM = s.SLIM := rfl
@[simp] theorem releaseResponse_PHASE : (releaseResponse s).PHASE = s.PHASE := rfl
@[simp] theorem releaseResponse_pos : (releaseResponse s).pos = s.pos := rfl
@[simp] theorem releaseResponse_OP_R : (releaseResponse s).OP_R = s.OP_R := rfl
@[simp] theorem releaseResponse_ARG_R : (releaseResponse s).ARG_R = s.ARG_R := rfl
@[simp] theorem releaseResponse_ports : (releaseResponse s).ports = s.ports := rfl

/-! ### `respond` -/

@[simp] theorem respond_cfg (st : Status) (d : Word) : (respond st d s).cfg = s.cfg := rfl
@[simp] theorem respond_S (st : Status) (d : Word) : (respond st d s).S = s.S := rfl
@[simp] theorem respond_PHASE (st : Status) (d : Word) : (respond st d s).PHASE = .resp := rfl
@[simp] theorem respond_pos (st : Status) (d : Word) : (respond st d s).pos = .start := rfl
@[simp] theorem respond_RSP_STATUS (st : Status) (d : Word) : (respond st d s).RSP_STATUS = statusBits st := rfl
@[simp] theorem respond_RSP_DATA (st : Status) (d : Word) : (respond st d s).RSP_DATA = d := rfl
@[simp] theorem respond_ports (st : Status) (d : Word) : (respond st d s).ports = s.ports := rfl

/-! ### `acceptCommand` -/

@[simp] theorem acceptCommand_cfg (op : Opcode) (arg : Word) : (acceptCommand op arg s).cfg = s.cfg := rfl
@[simp] theorem acceptCommand_S (op : Opcode) (arg : Word) : (acceptCommand op arg s).S = s.S := rfl
@[simp] theorem acceptCommand_ACC (op : Opcode) (arg : Word) : (acceptCommand op arg s).ACC = s.ACC := rfl
@[simp] theorem acceptCommand_K (op : Opcode) (arg : Word) : (acceptCommand op arg s).K = s.K := rfl
@[simp] theorem acceptCommand_E (op : Opcode) (arg : Word) : (acceptCommand op arg s).E = s.E := rfl
@[simp] theorem acceptCommand_SB (op : Opcode) (arg : Word) : (acceptCommand op arg s).SB = s.SB := rfl
@[simp] theorem acceptCommand_STH (op : Opcode) (arg : Word) : (acceptCommand op arg s).STH = s.STH := rfl
@[simp] theorem acceptCommand_SLIM (op : Opcode) (arg : Word) : (acceptCommand op arg s).SLIM = s.SLIM := rfl
@[simp] theorem acceptCommand_PHASE (op : Opcode) (arg : Word) : (acceptCommand op arg s).PHASE = .exec := rfl
@[simp] theorem acceptCommand_pos (op : Opcode) (arg : Word) : (acceptCommand op arg s).pos = .start := rfl
@[simp] theorem acceptCommand_OP_R (op : Opcode) (arg : Word) : (acceptCommand op arg s).OP_R = op := rfl
@[simp] theorem acceptCommand_ARG_R (op : Opcode) (arg : Word) : (acceptCommand op arg s).ARG_R = arg := rfl
@[simp] theorem acceptCommand_RSP_STATUS (op : Opcode) (arg : Word) : (acceptCommand op arg s).RSP_STATUS = s.RSP_STATUS := rfl
@[simp] theorem acceptCommand_RSP_DATA (op : Opcode) (arg : Word) : (acceptCommand op arg s).RSP_DATA = s.RSP_DATA := rfl
@[simp] theorem acceptCommand_ports (op : Opcode) (arg : Word) : (acceptCommand op arg s).ports = s.ports := rfl
@[simp] theorem acceptCommand_free (op : Opcode) (arg : Word) : (acceptCommand op arg s).free = s.free := rfl

/-! ### `takeResponse` -/

@[simp] theorem takeResponse_cfg : (takeResponse s).cfg = s.cfg := rfl
@[simp] theorem takeResponse_S : (takeResponse s).S = s.S := rfl
@[simp] theorem takeResponse_ACC : (takeResponse s).ACC = s.ACC := rfl
@[simp] theorem takeResponse_K : (takeResponse s).K = s.K := rfl
@[simp] theorem takeResponse_E : (takeResponse s).E = s.E := rfl
@[simp] theorem takeResponse_SB : (takeResponse s).SB = s.SB := rfl
@[simp] theorem takeResponse_STH : (takeResponse s).STH = s.STH := rfl
@[simp] theorem takeResponse_SLIM : (takeResponse s).SLIM = s.SLIM := rfl
@[simp] theorem takeResponse_PHASE : (takeResponse s).PHASE = .idle := rfl
@[simp] theorem takeResponse_pos : (takeResponse s).pos = s.pos := rfl
@[simp] theorem takeResponse_OP_R : (takeResponse s).OP_R = s.OP_R := rfl
@[simp] theorem takeResponse_ARG_R : (takeResponse s).ARG_R = s.ARG_R := rfl
@[simp] theorem takeResponse_ports : (takeResponse s).ports = s.ports := rfl

/-! ### `resetEdge` -/

@[simp] theorem resetEdge_cfg : (resetEdge s).cfg = s.cfg := rfl
@[simp] theorem resetEdge_S : (resetEdge s).S = seedInit s.cfg s.cfg.resetSeed := rfl
@[simp] theorem resetEdge_PHASE : (resetEdge s).PHASE = .idle := rfl
@[simp] theorem resetEdge_pos : (resetEdge s).pos = .start := rfl
@[simp] theorem resetEdge_ports : (resetEdge s).ports = s.ports := rfl

/-! ### `nextState` -/

@[simp] theorem nextState_cfg : (nextState s).cfg = s.cfg := rfl
@[simp] theorem nextState_S : (nextState s).S = advance s.cfg s.S := rfl
@[simp] theorem nextState_ACC : (nextState s).ACC = s.ACC := rfl
@[simp] theorem nextState_K : (nextState s).K = s.K := rfl
@[simp] theorem nextState_E : (nextState s).E = s.E := rfl
@[simp] theorem nextState_SB : (nextState s).SB = s.SB := rfl
@[simp] theorem nextState_STH : (nextState s).STH = s.STH := rfl
@[simp] theorem nextState_SLIM : (nextState s).SLIM = s.SLIM := rfl
@[simp] theorem nextState_PHASE : (nextState s).PHASE = s.PHASE := rfl
@[simp] theorem nextState_pos : (nextState s).pos = s.pos := rfl
@[simp] theorem nextState_OP_R : (nextState s).OP_R = s.OP_R := rfl
@[simp] theorem nextState_ARG_R : (nextState s).ARG_R = s.ARG_R := rfl
@[simp] theorem nextState_RSP_STATUS : (nextState s).RSP_STATUS = s.RSP_STATUS := rfl
@[simp] theorem nextState_RSP_DATA : (nextState s).RSP_DATA = s.RSP_DATA := rfl
@[simp] theorem nextState_ports : (nextState s).ports = s.ports := rfl
@[simp] theorem nextState_free : (nextState s).free = s.free := rfl

/-! ### `expandStart` -/

@[simp] theorem expandStart_cfg (seed : Word) : (expandStart seed s).cfg = s.cfg := rfl
@[simp] theorem expandStart_S (seed : Word) : (expandStart seed s).S = s.S := rfl
@[simp] theorem expandStart_ACC (seed : Word) : (expandStart seed s).ACC = seed := rfl
@[simp] theorem expandStart_K (seed : Word) : (expandStart seed s).K = 0 := rfl
@[simp] theorem expandStart_E (seed : Word) : (expandStart seed s).E = s.E := rfl
@[simp] theorem expandStart_SB (seed : Word) : (expandStart seed s).SB = s.SB := rfl
@[simp] theorem expandStart_STH (seed : Word) : (expandStart seed s).STH = s.STH := rfl
@[simp] theorem expandStart_SLIM (seed : Word) : (expandStart seed s).SLIM = s.SLIM := rfl
@[simp] theorem expandStart_PHASE (seed : Word) : (expandStart seed s).PHASE = s.PHASE := rfl
@[simp] theorem expandStart_pos (seed : Word) : (expandStart seed s).pos = .expanding := rfl
@[simp] theorem expandStart_OP_R (seed : Word) : (expandStart seed s).OP_R = s.OP_R := rfl
@[simp] theorem expandStart_ARG_R (seed : Word) : (expandStart seed s).ARG_R = s.ARG_R := rfl
@[simp] theorem expandStart_RSP_STATUS (seed : Word) : (expandStart seed s).RSP_STATUS = s.RSP_STATUS := rfl
@[simp] theorem expandStart_RSP_DATA (seed : Word) : (expandStart seed s).RSP_DATA = s.RSP_DATA := rfl
@[simp] theorem expandStart_ports (seed : Word) : (expandStart seed s).ports = s.ports := rfl
@[simp] theorem expandStart_free (seed : Word) : (expandStart seed s).free = s.free := rfl

/-! ### `expandIteration` -/

@[simp] theorem expandIteration_cfg : (expandIteration s).cfg = s.cfg := rfl
@[simp] theorem expandIteration_S : (expandIteration s).S = s.S := rfl
@[simp] theorem expandIteration_ACC : (expandIteration s).ACC = s.ACC + s.cfg.expGamma := rfl
@[simp] theorem expandIteration_K : (expandIteration s).K = s.K + 1 := rfl
@[simp] theorem expandIteration_E : (expandIteration s).E = setQuad s.E s.K.toNat (mix s.cfg (s.ACC + s.cfg.expGamma)) := rfl
@[simp] theorem expandIteration_SB : (expandIteration s).SB = s.SB := rfl
@[simp] theorem expandIteration_STH : (expandIteration s).STH = s.STH := rfl
@[simp] theorem expandIteration_SLIM : (expandIteration s).SLIM = s.SLIM := rfl
@[simp] theorem expandIteration_PHASE : (expandIteration s).PHASE = s.PHASE := rfl
@[simp] theorem expandIteration_pos : (expandIteration s).pos = s.pos := rfl
@[simp] theorem expandIteration_OP_R : (expandIteration s).OP_R = s.OP_R := rfl
@[simp] theorem expandIteration_ARG_R : (expandIteration s).ARG_R = s.ARG_R := rfl
@[simp] theorem expandIteration_RSP_STATUS : (expandIteration s).RSP_STATUS = s.RSP_STATUS := rfl
@[simp] theorem expandIteration_RSP_DATA : (expandIteration s).RSP_DATA = s.RSP_DATA := rfl
@[simp] theorem expandIteration_ports : (expandIteration s).ports = s.ports := rfl
@[simp] theorem expandIteration_free : (expandIteration s).free = s.free := rfl

/-! ### `expandCommit` -/

@[simp] theorem expandCommit_cfg : (expandCommit s).cfg = s.cfg := rfl
@[simp] theorem expandCommit_S : (expandCommit s).S = zeroGuard s.cfg s.E := rfl
@[simp] theorem expandCommit_ACC : (expandCommit s).ACC = s.ACC := rfl
@[simp] theorem expandCommit_K : (expandCommit s).K = s.K := rfl
@[simp] theorem expandCommit_E : (expandCommit s).E = s.E := rfl
@[simp] theorem expandCommit_SB : (expandCommit s).SB = s.SB := rfl
@[simp] theorem expandCommit_STH : (expandCommit s).STH = s.STH := rfl
@[simp] theorem expandCommit_SLIM : (expandCommit s).SLIM = s.SLIM := rfl
@[simp] theorem expandCommit_PHASE : (expandCommit s).PHASE = s.PHASE := rfl
@[simp] theorem expandCommit_pos : (expandCommit s).pos = s.pos := rfl
@[simp] theorem expandCommit_OP_R : (expandCommit s).OP_R = s.OP_R := rfl
@[simp] theorem expandCommit_ARG_R : (expandCommit s).ARG_R = s.ARG_R := rfl
@[simp] theorem expandCommit_RSP_STATUS : (expandCommit s).RSP_STATUS = s.RSP_STATUS := rfl
@[simp] theorem expandCommit_RSP_DATA : (expandCommit s).RSP_DATA = s.RSP_DATA := rfl
@[simp] theorem expandCommit_ports : (expandCommit s).ports = s.ports := rfl
@[simp] theorem expandCommit_free : (expandCommit s).free = s.free := rfl

/-! ### `dropPort` -/

@[simp] theorem dropPort_cfg : (dropPort s).cfg = s.cfg := rfl
@[simp] theorem dropPort_S : (dropPort s).S = s.S := rfl
@[simp] theorem dropPort_ACC : (dropPort s).ACC = s.ACC := rfl
@[simp] theorem dropPort_K : (dropPort s).K = s.K := rfl
@[simp] theorem dropPort_E : (dropPort s).E = s.E := rfl
@[simp] theorem dropPort_SB : (dropPort s).SB = s.SB := rfl
@[simp] theorem dropPort_STH : (dropPort s).STH = s.STH := rfl
@[simp] theorem dropPort_SLIM : (dropPort s).SLIM = s.SLIM := rfl
@[simp] theorem dropPort_PHASE : (dropPort s).PHASE = s.PHASE := rfl
@[simp] theorem dropPort_pos : (dropPort s).pos = s.pos := rfl
@[simp] theorem dropPort_OP_R : (dropPort s).OP_R = s.OP_R := rfl
@[simp] theorem dropPort_ARG_R : (dropPort s).ARG_R = s.ARG_R := rfl
@[simp] theorem dropPort_RSP_STATUS : (dropPort s).RSP_STATUS = s.RSP_STATUS := rfl
@[simp] theorem dropPort_RSP_DATA : (dropPort s).RSP_DATA = s.RSP_DATA := rfl
@[simp] theorem dropPort_ports : (dropPort s).ports = s.ports.tail := rfl
@[simp] theorem dropPort_free : (dropPort s).free = s.free := rfl

/-! ### `sampleSetup` -/

@[simp] theorem sampleSetup_cfg (b : Word) : (sampleSetup b s).cfg = s.cfg := by
  unfold sampleSetup; split <;> rfl
@[simp] theorem sampleSetup_S (b : Word) : (sampleSetup b s).S = s.S := by
  unfold sampleSetup; split <;> rfl
@[simp] theorem sampleSetup_ACC (b : Word) : (sampleSetup b s).ACC = s.ACC := by
  unfold sampleSetup; split <;> rfl
@[simp] theorem sampleSetup_K (b : Word) : (sampleSetup b s).K = s.K := by
  unfold sampleSetup; split <;> rfl
@[simp] theorem sampleSetup_E (b : Word) : (sampleSetup b s).E = s.E := by
  unfold sampleSetup; split <;> rfl
@[simp] theorem sampleSetup_SB (b : Word) : (sampleSetup b s).SB = b := by
  unfold sampleSetup; split <;> rfl
@[simp] theorem sampleSetup_PHASE (b : Word) : (sampleSetup b s).PHASE = s.PHASE := by
  unfold sampleSetup; split <;> rfl
@[simp] theorem sampleSetup_pos (b : Word) : (sampleSetup b s).pos = .drawing := by
  unfold sampleSetup; split <;> rfl
@[simp] theorem sampleSetup_OP_R (b : Word) : (sampleSetup b s).OP_R = s.OP_R := by
  unfold sampleSetup; split <;> rfl
@[simp] theorem sampleSetup_ARG_R (b : Word) : (sampleSetup b s).ARG_R = s.ARG_R := by
  unfold sampleSetup; split <;> rfl
@[simp] theorem sampleSetup_RSP_STATUS (b : Word) : (sampleSetup b s).RSP_STATUS = s.RSP_STATUS := by
  unfold sampleSetup; split <;> rfl
@[simp] theorem sampleSetup_RSP_DATA (b : Word) : (sampleSetup b s).RSP_DATA = s.RSP_DATA := by
  unfold sampleSetup; split <;> rfl
@[simp] theorem sampleSetup_ports (b : Word) : (sampleSetup b s).ports = s.ports := by
  unfold sampleSetup; split <;> rfl
@[simp] theorem sampleSetup_free (b : Word) : (sampleSetup b s).free = s.free := by
  unfold sampleSetup; split <;> rfl

theorem sampleSetup_lemire (b : Word) (h : s.cfg.samplerAlg = .lemire) :
    sampleSetup b s = { s with SB := b, STH := threshold b, pos := .drawing } := by
  simp [sampleSetup, h]

theorem sampleSetup_modulo (b : Word) (h : s.cfg.samplerAlg = .modulo) :
    sampleSetup b s = { s with SB := b, SLIM := sampleLimit b, pos := .drawing } := by
  simp [sampleSetup, h]

end Sys2Proof.Machine
end

