-- ==== Sys2Proof/Laws/Ops.lean ====
section
/-! SUPPORT. One lemma per shared operation, saying everything it can do, and the case lemmas of `exec` and `step` that
proofs cite instead of unfolding them. -/

namespace Sys2Proof.Machine

/-- A `respond` is the response of the command, over the generator state it is applied to. -/
theorem responds_respond (st : Status) (d : Word) (u s : State) (hc : u.cfg = s.cfg) (hp : u.ports = s.ports) :
    Responds (.next (respond st d u)) s (statusBits st) d u.S :=
  ⟨respond st d u, rfl, rfl, rfl, rfl, rfl, hc, hp⟩

/-- Everything one iteration of the sampler's loop can do. -/
theorem sampleIteration_cases (finish : Word → Word) (s : State) :
    (∃ r, loopTest s.cfg.samplerAlg s.SB s.STH s.SLIM (genOut s.S) = some r ∧
      sampleIteration finish s = respond .ok (finish r) (nextState s)) ∨
    (loopTest s.cfg.samplerAlg s.SB s.STH s.SLIM (genOut s.S) = none ∧ sampleIteration finish s = nextState s) := by
  unfold sampleIteration nextOutput
  split <;> simp_all

/-- Everything the dispatch of a sampler command can do. -/
theorem sampleDispatch_cases (finish : Word → Word) (b : Word) (s : State) :
    (b = 0 ∧ sampleDispatch finish b s = respond .ok (finish 0) s) ∨
    (isPow2 b = true ∧ sampleDispatch finish b s = respond .ok (finish (maskDraw b (genOut s.S))) (nextState s)) ∨
    (generalBound b = true ∧ sampleDispatch finish b s = sampleSetup b s) := by
  unfold sampleDispatch generalBound nextOutput
  split
  · simp_all
  · split <;> simp_all

theorem execSeed_start (seed : Word) (s : State) (h : s.pos ≠ .expanding) :
    execSeed seed s = .next (expandStart seed s) := by
  simp [execSeed, h]

theorem execSeed_iterate (seed : Word) (s : State) (h : s.pos = .expanding) (hk : s.K < 4) :
    execSeed seed s = .next (expandIteration s) := by
  rw [execSeed, if_pos h, if_pos hk]

theorem execSeed_commit (seed : Word) (s : State) (h : s.pos = .expanding) (hk : ¬ s.K < 4) :
    execSeed seed s = .next (respond .ok 0 (expandCommit s)) := by
  rw [execSeed, if_pos h, if_neg hk]

theorem execSample_drawing (b : Word) (s : State) (h : s.pos = .drawing) :
    execSample b s = .next (sampleIteration id s) := by
  rw [execSample, if_pos h]

theorem execSample_dispatch (b : Word) (s : State) (h : s.pos ≠ .drawing) :
    execSample b s = .next (sampleDispatch id b s) := by
  rw [execSample, if_neg h]

theorem execOnein_drawing (b : Word) (s : State) (h : s.pos = .drawing) :
    execOnein b s = .next (sampleIteration oneInData s) := by
  rw [execOnein, if_pos h]

theorem execOnein_degenerate (b : Word) (s : State) (h : s.pos ≠ .drawing) (hb : b ≤ 1) :
    execOnein b s = .next (respond .ok 1 s) := by
  rw [execOnein, if_neg h, if_pos hb]

theorem execOnein_dispatch (b : Word) (s : State) (h : s.pos ≠ .drawing) (hb : ¬ b ≤ 1) :
    execOnein b s = .next (sampleDispatch oneInData b s) := by
  rw [execOnein, if_neg h, if_neg hb]

/-- Writing word `k` of a vector, then reading word `j`. -/
theorem getQuad_setQuad (q : Quad) (v : Word) {j k : Nat} (hj : j < 4) (hk : k < 4) :
    getQuad (setQuad q k v) j = if j = k then v else getQuad q j := by
  have hk' : k = 0 ∨ k = 1 ∨ k = 2 ∨ k = 3 := by omega
  have hj' : j = 0 ∨ j = 1 ∨ j = 2 ∨ j = 3 := by omega
  rcases hk' with rfl | rfl | rfl | rfl <;> rcases hj' with rfl | rfl | rfl | rfl <;> simp [getQuad, setQuad]

/-- Vectors are equal when their four words are. -/
theorem quad_ext {a b : Quad} (h : ∀ j < 4, getQuad a j = getQuad b j) : a = b := by
  cases a
  cases b
  simpa [getQuad] using And.intro (h 0 (by omega)) (And.intro (h 1 (by omega)) (And.intro (h 2 (by omega)) (h 3 (by omega))))

/-- Every internal step of every command answers one of these next states: a response over the state it leaves in `S`,
or a step of one of the two internal loops. -/
theorem exec_cases (i : Instr) (s : State) :
    (∃ d, exec i s = .next (respond .ok d s)) ∨
    (∃ d, exec i s = .next (respond .ok d (nextState s)) ∧ ∀ seed, i ≠ .seed seed) ∨
    (∃ seed, i = .seed seed ∧ s.pos = .expanding ∧ ¬ s.K < 4 ∧ exec i s = .next (respond .ok 0 (expandCommit s))) ∨
    (∃ seed, i = .seed seed ∧ s.pos ≠ .expanding ∧ exec i s = .next (expandStart seed s)) ∨
    (∃ seed, i = .seed seed ∧ s.pos = .expanding ∧ s.K < 4 ∧ exec i s = .next (expandIteration s)) ∨
    (∃ b, (i = .sample b ∨ i = .onein b) ∧ s.pos ≠ .drawing ∧ generalBound b = true ∧
      exec i s = .next (sampleSetup b s)) ∨
    (∃ b, (i = .sample b ∨ i = .onein b) ∧ s.pos = .drawing ∧ exec i s = .next (nextState s)) := by
  cases i with
  | seed seed =>
    by_cases h : s.pos = .expanding
    · by_cases hk : s.K < 4
      · exact .inr (.inr (.inr (.inr (.inl ⟨seed, rfl, h, hk, execSeed_iterate seed s h hk⟩))))
      · exact .inr (.inr (.inl ⟨seed, rfl, h, hk, execSeed_commit seed s h hk⟩))
    · exact .inr (.inr (.inr (.inl ⟨seed, rfl, h, execSeed_start seed s h⟩)))
  | draw64 => exact .inr (.inl ⟨genOut s.S, rfl, by simp⟩)
  | draw32 => exact .inr (.inl ⟨upper32 (genOut s.S), rfl, by simp⟩)
  | sample b =>
    by_cases h : s.pos = .drawing
    · rcases sampleIteration_cases id s with ⟨r, -, hr⟩ | ⟨-, hr⟩
      · exact .inr (.inl ⟨r, by simp [exec, execSample, h, hr], by simp⟩)
      · exact .inr (.inr (.inr (.inr (.inr (.inr ⟨b, .inl rfl, h, by simp [exec, execSample, h, hr]⟩)))))
    · rcases sampleDispatch_cases id b s with ⟨-, hr⟩ | ⟨-, hr⟩ | ⟨hg, hr⟩
      · exact .inl ⟨0, by simp [exec, execSample, h, hr]⟩
      · exact .inr (.inl ⟨maskDraw b (genOut s.S), by simp [exec, execSample, h, hr], by simp⟩)
      · exact .inr (.inr (.inr (.inr (.inr (.inl ⟨b, .inl rfl, h, hg, by simp [exec, execSample, h, hr]⟩)))))
  | onein b =>
    by_cases h : s.pos = .drawing
    · rcases sampleIteration_cases oneInData s with ⟨r, -, hr⟩ | ⟨-, hr⟩
      · exact .inr (.inl ⟨oneInData r, by simp [exec, execOnein, h, hr], by simp⟩)
      · exact .inr (.inr (.inr (.inr (.inr (.inr ⟨b, .inr rfl, h, by simp [exec, execOnein, h, hr]⟩)))))
    · by_cases hb : b ≤ 1
      · exact .inl ⟨1, by simp only [exec, execOnein, if_neg h, if_pos hb]⟩
      · rcases sampleDispatch_cases oneInData b s with ⟨-, hr⟩ | ⟨-, hr⟩ | ⟨hg, hr⟩
        · exact .inl ⟨oneInData 0, by simp only [exec, execOnein, if_neg h, if_neg hb, hr]⟩
        · exact .inr (.inl ⟨oneInData (maskDraw b (genOut s.S)), by simp only [exec, execOnein, if_neg h, if_neg hb, hr], by simp⟩)
        · exact .inr (.inr (.inr (.inr (.inr (.inl ⟨b, .inr rfl, h, hg, by simp only [exec, execOnein, if_neg h, if_neg hb, hr]⟩)))))

/-- Everything the decoder can answer. -/
theorem decodeFields_cases (op : Opcode) (arg : Word) :
    (op = 0x01 ∧ decodeFields op arg = .ok (.seed arg)) ∨ (op = 0x02 ∧ decodeFields op arg = .ok .draw64) ∨
    (op = 0x03 ∧ decodeFields op arg = .ok .draw32) ∨ (op = 0x04 ∧ decodeFields op arg = .ok (.sample arg)) ∨
    (op = 0x05 ∧ decodeFields op arg = .ok (.onein arg)) ∨
    (op ≠ 0x01 ∧ op ≠ 0x02 ∧ op ≠ 0x03 ∧ op ≠ 0x04 ∧ op ≠ 0x05 ∧
      decodeFields op arg = .error (.illegalOpcode op)) := by
  unfold decodeFields
  split_ifs <;> simp_all

theorem step_of_rst (s : State) (h : (portNow s).rst = true) : step s = .next (resetEdge (dropPort s)) := by
  simp [step, h]

theorem step_of_idle (s : State) (h : ordinary s) (hp : s.PHASE = .idle) :
    step s = .next (idleStep (portNow s) (dropPort s)) := by
  simp [step, h.1, h.2, hp]

theorem step_of_exec (s : State) (h : ordinary s) (hp : s.PHASE = .exec) : step s = execStep (dropPort s) := by
  simp [step, h.1, h.2, hp]

theorem step_of_resp (s : State) (h : ordinary s) (hp : s.PHASE = .resp) :
    step s = respStep (portNow s) (dropPort s) := by
  simp [step, h.1, h.2, hp]

/-- Everything one step can do when it answers a next state. -/
theorem step_cases {s t : State} (h : step s = .next t) :
    ((portNow s).rst = true ∧ t = resetEdge (dropPort s)) ∨
    (ordinary s ∧ s.PHASE = .idle ∧ t = idleStep (portNow s) (dropPort s)) ∨
    (ordinary s ∧ s.PHASE = .exec ∧ execStep (dropPort s) = .next t) ∨
    (ordinary s ∧ s.PHASE = .resp ∧ respStep (portNow s) (dropPort s) = .next t) := by
  by_cases hr : (portNow s).rst = true
  · rw [step_of_rst s hr] at h
    exact .inl ⟨hr, by cases h; rfl⟩
  · by_cases hc : (portNow s).contested = true
    · simp [step, hr, hc] at h
    · have ho : ordinary s := ⟨by simpa using hr, by simpa using hc⟩
      cases hp : s.PHASE with
      | idle =>
        rw [step_of_idle s ho hp] at h
        exact .inr (.inl ⟨ho, rfl, by cases h; rfl⟩)
      | exec =>
        rw [step_of_exec s ho hp] at h
        exact .inr (.inr (.inl ⟨ho, rfl, h⟩))
      | resp =>
        rw [step_of_resp s ho hp] at h
        exact .inr (.inr (.inr ⟨ho, rfl, h⟩))

/-- Everything an internal step can do: the ILLEGAL outcome, or a step of the decoded command. -/
theorem execStep_cases (s : State) :
    (∃ i, decodeFields s.OP_R s.ARG_R = .ok i ∧ execStep s = exec i s) ∨
    (∃ e, decodeFields s.OP_R s.ARG_R = .error e ∧ execStep s = .next (illegalOutcome s)) := by
  unfold execStep
  split
  · rename_i i h; exact .inl ⟨i, h, rfl⟩
  · rename_i e h; exact .inr ⟨e, h, rfl⟩

/-- Everything a step in `RESP` can do. -/
theorem respStep_cases (p : PortSample) (s : State) :
    (reservedStatus s.RSP_STATUS = true ∧ respStep p s = .fault .reservedStatusPresented) ∨
    (reservedStatus s.RSP_STATUS = false ∧ p.rspReady = true ∧ respStep p s = .next (takeResponse s)) ∨
    (reservedStatus s.RSP_STATUS = false ∧ p.rspReady = false ∧ respStep p s = .next s) := by
  unfold respStep
  split
  · simp_all
  · split <;> simp_all

end Sys2Proof.Machine
end

