-- ==== Sys2Proof/Laws/PerInstr.lean ====
section
/-! SUPPORT. The encoding family: for each command, its word decodes to it, and holds its opcode and argument in the
fields of `CMD72` (`30_encoding.md` R77, R79). -/

namespace Sys2Proof.Laws.Encoding

/-- The word of the command carries its opcode and argument, and decodes to it. -/
def Statement (i : Instr) : Prop :=
  i.wf = true ∧ commandOp (encode i) = opcodeOf i ∧ commandArg (encode i) = argumentOf i ∧ decode (encode i) = .ok i

/-- The opcode field of an assembled word. -/
theorem commandOp_commandOf (op : Opcode) (arg : Word) : commandOp (commandOf op arg) = op := by
  apply BitVec.eq_of_toNat_eq
  have h := arg.isLt
  have h' := op.isLt
  simp only [commandOp, commandOf, BitVec.extractLsb'_toNat, BitVec.toNat_append, Nat.shiftLeft_eq, Nat.shiftRight_eq_div_pow]
  rw [← Nat.shiftLeft_eq, ← Nat.shiftLeft_add_eq_or_of_lt h, Nat.shiftLeft_eq]
  omega

/-- The argument field of an assembled word. -/
theorem commandArg_commandOf (op : Opcode) (arg : Word) : commandArg (commandOf op arg) = arg := by
  apply BitVec.eq_of_toNat_eq
  have h := arg.isLt
  simp only [commandArg, commandOf, BitVec.extractLsb'_toNat, BitVec.toNat_append, Nat.shiftRight_zero]
  rw [← Nat.shiftLeft_add_eq_or_of_lt h, Nat.shiftLeft_eq]
  omega

theorem seed (seed : Word) : Statement (.seed seed) := by
  simp [Statement, Instr.wf, decode, encode, commandOp_commandOf, commandArg_commandOf, opcodeOf, argumentOf, decodeFields]

theorem draw64 : Statement .draw64 := by
  simp [Statement, Instr.wf, decode, encode, commandOp_commandOf, commandArg_commandOf, opcodeOf, argumentOf, decodeFields]

theorem draw32 : Statement .draw32 := by
  simp [Statement, Instr.wf, decode, encode, commandOp_commandOf, commandArg_commandOf, opcodeOf, argumentOf, decodeFields]

theorem sample (bound : Word) : Statement (.sample bound) := by
  simp [Statement, Instr.wf, decode, encode, commandOp_commandOf, commandArg_commandOf, opcodeOf, argumentOf, decodeFields]

theorem onein (bound : Word) : Statement (.onein bound) := by
  simp [Statement, Instr.wf, decode, encode, commandOp_commandOf, commandArg_commandOf, opcodeOf, argumentOf, decodeFields]

end Sys2Proof.Laws.Encoding
end

