-- ==== Sys2Proof/Laws/Reset.lean ====
section
/-! SUPPORT. The fields of the state right after reset, and that the default parameters are admissible whatever the
OPEN values are. -/

namespace Sys2Proof.Machine

@[simp] theorem reset_cfg : State.reset.cfg = Config.params := rfl
@[simp] theorem reset_S : State.reset.S = seedInit Config.params Config.params.resetSeed := by
  simp only [State.reset]
@[simp] theorem reset_PHASE : State.reset.PHASE = .idle := rfl
@[simp] theorem reset_pos : State.reset.pos = .start := rfl
@[simp] theorem reset_ports : State.reset.ports = [] := rfl

/-- The vector of a number between 1 and 2^256 − 1 is not all zero. -/
theorem quadOfNat_ne_zero (n : Nat) (h0 : n ≠ 0) (h : n < 2 ^ 256) : Config.quadOfNat n ≠ Quad.zero := by
  intro hc
  simp only [Config.quadOfNat, Quad.zero, Quad.mk.injEq, ← BitVec.toNat_inj, BitVec.toNat_ofNat] at hc
  have h1 : n / 2 ^ 128 = n / 2 ^ 64 / 2 ^ 64 := by rw [Nat.div_div_eq_div_mul, ← Nat.pow_add]
  have h2 : n / 2 ^ 192 = n / 2 ^ 64 / 2 ^ 64 / 2 ^ 64 := by
    rw [Nat.div_div_eq_div_mul, Nat.div_div_eq_div_mul, ← Nat.pow_add, ← Nat.pow_add]
  have h3 : (0 : Word).toNat = 0 := rfl
  rw [h1, h2, h3] at hc
  omega

/-- `FALLBACK_STATE` is not all zero (R8). -/
theorem fallbackState_ne_zero : Config.fallbackState ≠ Quad.zero := by
  have h : Config.fallbackIndex % (2 ^ 256 - 1) < 2 ^ 256 - 1 := Nat.mod_lt _ (by norm_num)
  exact quadOfNat_ne_zero _ (by omega) (by omega)

/-- The default parameters are admissible (R8, R101). -/
theorem params_wf : Config.params.wf = true := by
  have h : nonzeroQuad Config.params.fallback = true := by
    simpa [nonzeroQuad, Config.params] using fallbackState_ne_zero
  have ho : Config.params.oddConstants = true := by decide
  have he : Config.params.expanderShifts = true := by decide
  have hg : Config.params.generatorShifts = true := by decide
  simp [Params.wf, h, ho, he, hg]

end Sys2Proof.Machine
end

