-- ==== Sys2Proof/Tests/Slice0.lean ====
section
/-! SUPPORT. Tests: the checks of `WellFormed` refuse ill-formed parameters; command words written out from R77 and R79;
single steps against the vectors of `95_test_vectors.md`; and, for every statement with hypotheses, a state and operands
that meet them. -/

namespace Sys2Proof.Tests

open Sys2Proof.Machine

/-! ### Helpers -/

/-- The default parameters of R8 with example values for the two OPEN ones. -/
def demoParams : Params := { Config.params with fallback := ⟨1, 0, 0, 0⟩, resetSeed := 0 }

/-- An idle instance with the state `(1, 2, 3, 4)` of V-GEN-7. -/
def demoIdle : State := { State.reset with cfg := demoParams, S := ⟨1, 2, 3, 4⟩ }

/-- The state after `SEED 1337` (V-EXP-3). -/
def seeded1337 : Quad := ⟨0xB6A8A9B313CAA00B, 0xCB7F284B67D605C9, 0x3440FCCF54082B5A, 0x77026DC1FEEFC262⟩

/-- The state after `SEED 6` (program P3). -/
def seeded6 : Quad := ⟨0xBD64A5D9ADEFE000, 0x72419DB23951DF99, 0x0E6C7D0372AA2F46, 0x1B049812EDD0DA90⟩

/-- An instance that has just accepted a command, over the generator state `q`. -/
def demoExec (op : Opcode) (arg : Word) (q : Quad) : State :=
  { demoIdle with S := q, PHASE := .exec, OP_R := op, ARG_R := arg }

/-- The same with the portability fallback. -/
def moduloExec (op : Opcode) (arg : Word) (q : Quad) : State :=
  { demoExec op arg q with cfg := { demoParams with samplerAlg := .modulo } }

/-- An instance that presents a response. -/
def demoResp (st : StatusBits) : State := { demoIdle with PHASE := .resp, RSP_STATUS := st, RSP_DATA := 7 }

/-- The outcome is a response with this status and data, and this generator state. -/
def respondsWith (o : Host.Outcome State Fault Refusal) (st : StatusBits) (d : Word) (q : Quad) : Bool :=
  match o with
  | .next t => decide (t.PHASE = .resp ∧ t.RSP_STATUS = st ∧ t.RSP_DATA = d ∧ t.S = q)
  | .fault _ => false
  | .refused _ => false

/-- A property of the next state. -/
def nextSatisfies (o : Host.Outcome State Fault Refusal) (f : State → Bool) : Bool :=
  match o with
  | .next t => f t
  | .fault _ => false
  | .refused _ => false

/-! ### WellFormed -/

theorem test_wf_default : demoParams.wf = true := by decide
theorem test_wf_refuses_even_gamma : ({ demoParams with expGamma := 2 } : Params).wf = false := by decide
theorem test_wf_refuses_even_multiplier : ({ demoParams with expM2 := 4 } : Params).wf = false := by decide
theorem test_wf_refuses_expander_shift_zero : ({ demoParams with expSh1 := 0 } : Params).wf = false := by decide
theorem test_wf_refuses_generator_shift_64 : ({ demoParams with genA := 64 } : Params).wf = false := by decide
theorem test_wf_refuses_zero_fallback : ({ demoParams with fallback := Quad.zero } : Params).wf = false := by decide
theorem test_system_needs_an_instance : (System.mk [] [0]).wf = false := by decide

/-! ### Encoding: words written out bit by bit (R77, R79; V-ENC-1, V-ILL-1) -/

-- 00000001 ∥ 1337, 00000010 ∥ all ones, 00000011 ∥ 0xDEADBEEF, 00000100 ∥ 2^63 + 1, 00000101 ∥ 100
theorem test_decode_seed : decode 0x010000000000000539 = .ok (.seed 1337) := by decide
theorem test_decode_draw64 : decode 0x02FFFFFFFFFFFFFFFF = .ok .draw64 := by decide
theorem test_decode_draw32 : decode 0x0300000000DEADBEEF = .ok .draw32 := by decide
theorem test_decode_sample : decode 0x048000000000000001 = .ok (.sample 0x8000000000000001) := by decide
theorem test_decode_onein : decode 0x050000000000000064 = .ok (.onein 100) := by decide
theorem test_decode_illegal : decode 0x800000000000000539 = .error (.illegalOpcode 0x80) := by decide
theorem test_decode_zero_word : decode 0 = .error (.illegalOpcode 0) := by decide
theorem test_table_word : decodeTableWord 72 0x05000000000000FF00 = some (.onein 0xFF00) := by decide

-- V-ENC-1
theorem test_assemble_one_in :
    assemble ['O', 'N', 'E', '_', 'I', 'N', '_', '1', '0', '0'] = .ok (some 0x050000000000000064) := by decide
theorem test_assemble_hex :
    assemble ['s', 'a', 'm', 'p', 'l', 'e', ' ', '0', 'x', '6', '4', ';', 'c'] = .ok (some 0x040000000000000064) := by
  decide
theorem test_assemble_extra : assembleWord ⟨.draw64, some 5⟩ = .error .extraOperand := by decide
theorem test_assemble_range : assembleWord ⟨.seed, some 18446744073709551616⟩ = .error .operandOutOfRange := by decide

/-! ### Pure functions -/

-- V-EXP-9, round by round for k = 0
theorem test_mix_rounds :
    xorShift (1337 + demoParams.expGamma) 30 * demoParams.expM1 = 0x466228F0F471E193 ∧
    mix { demoParams with expFinal := false } (1337 + demoParams.expGamma) = 0xB6A8A9B27E9BF36F ∧
    mix demoParams (1337 + demoParams.expGamma) = 0xB6A8A9B313CAA00B := by decide
-- V-EXP-4
theorem test_expand_wraps : expand demoParams 0xFFFFFFFFFFFFFFFF =
    ⟨0xE4D971771B652C20, 0xE99FF867DBF682C9, 0x382FF84CB27281E9, 0x6D1DB36CCBA982D2⟩ := by decide
-- V-GEN-2
theorem test_advance : advance demoParams seeded1337 =
    ⟨0x0AD5EC398AF367A0, 0x49977D3720148E98, 0xD27E9AD04C508B51, 0x38F5778FA8B15327⟩ := by decide
-- V-GEN-7
theorem test_out_corner : genOut ⟨0, 0xFFFFFFFFFFFFFFFF, 0, 0⟩ = 0xFFFFFFFFFFFFEDF7 := by decide
-- V-SMP-2
theorem test_threshold : threshold 0x8000000000000001 = 0x7FFFFFFFFFFFFFFF ∧ sampleLimit 10 = 0xFFFFFFFFFFFFFFFA := by
  decide
-- V-SMP-8, V-SMP-10
theorem test_judge : judgeDraw .lemire 3 0xFFFFFFFFFFFFFFFF = some 2 ∧ judgeDraw .modulo 3 0xFFFFFFFFFFFFFFFF = none ∧
    judgeDraw .lemire 100 0x8000000000000000 = none ∧ judgeDraw .modulo 100 0x8000000000000000 = some 8 := by decide

/-! ### One step of each command -/

-- V-EXP-9: the first accumulator and output of SEED 1337
theorem test_seed_first_iteration :
    nextSatisfies (exec (.seed 1337) { demoExec 0x01 1337 seeded6 with ACC := 1337, K := 0, pos := .expanding })
      (fun t => decide (t.ACC = 0x9E3779B97F4A814E ∧ t.E.w0 = 0xB6A8A9B313CAA00B ∧ t.K = 1 ∧ t.S = seeded6)) = true := by
  decide
-- R104: the commit of SEED
theorem test_seed_commit :
    respondsWith (exec (.seed 1337) { demoExec 0x01 1337 seeded6 with E := seeded1337, K := 4, pos := .expanding })
      0b00 0 seeded1337 = true := by decide
-- V-GEN-1, V-GEN-2
theorem test_draw64 : respondsWith (exec .draw64 (demoExec 0x02 0 seeded1337)) 0b00 0xAD0AA0A04F822EDC
    ⟨0x0AD5EC398AF367A0, 0x49977D3720148E98, 0xD27E9AD04C508B51, 0x38F5778FA8B15327⟩ = true := by decide
-- V-GEN-8
theorem test_draw32 : respondsWith (step (demoExec 0x03 0xDEADBEEF seeded1337)) 0b00 0x00000000AD0AA0A0
    ⟨0x0AD5EC398AF367A0, 0x49977D3720148E98, 0xD27E9AD04C508B51, 0x38F5778FA8B15327⟩ = true := by decide
-- V-SMP-33
theorem test_sample_mask : respondsWith (exec (.sample 0x8000000000000000) (demoExec 0x04 0x8000000000000000 seeded1337))
    0b00 0x2D0AA0A04F822EDC
    ⟨0x0AD5EC398AF367A0, 0x49977D3720148E98, 0xD27E9AD04C508B51, 0x38F5778FA8B15327⟩ = true := by decide
-- V-SMP-20: the iteration of SAMPLE 100
theorem test_sample_lemire :
    respondsWith (exec (.sample 100) { demoExec 0x04 100 seeded1337 with SB := 100, STH := 16, pos := .drawing })
      0b00 0x43 ⟨0x0AD5EC398AF367A0, 0x49977D3720148E98, 0xD27E9AD04C508B51, 0x38F5778FA8B15327⟩ = true := by decide
-- V-ONE-5 under MODULO: the iteration of ONEIN 3
theorem test_onein_modulo :
    respondsWith (exec (.onein 3)
        { moduloExec 0x05 3 seeded1337 with SB := 3, SLIM := 0xFFFFFFFFFFFFFFFF, pos := .drawing })
      0b00 1 ⟨0x0AD5EC398AF367A0, 0x49977D3720148E98, 0xD27E9AD04C508B51, 0x38F5778FA8B15327⟩ = true := by decide
-- V-ONE-2
theorem test_onein_one : respondsWith (exec (.onein 1) (demoExec 0x05 1 seeded1337)) 0b00 1 seeded1337 = true := by decide
-- V-ILL-1
theorem test_illegal : respondsWith (step (demoExec 0xFF 0xFFFFFFFFFFFFFFFF seeded1337)) 0b01 0 seeded1337 = true := by
  decide
-- V-RST-1
theorem test_reset_edge :
    nextSatisfies (step { demoExec 0x04 100 seeded6 with ports := [{ PortSample.quiet with rst := true }] })
      (fun t => decide (t.PHASE = .idle ∧
        t.S = ⟨0xE220A8397B1DCDAF, 0x6E789E6AA1B965F4, 0x06C45D188009454F, 0xF88BB8A8724C81EC⟩)) = true := by decide
-- the first instruction after reset, placed by `withFetchWord`
theorem test_first_after_reset :
    nextSatisfies (step (State.reset.withFetchWord 72 0x04FFFFFFFFFFFFFFFF))
      (fun t => decide (t.pos = .drawing ∧ t.SB = 0xFFFFFFFFFFFFFFFF ∧ t.STH = 1)) = true := by decide

/-! ### Witnesses: states and operands that meet the hypotheses of each statement -/

/-- A sample with `rst = 1`. -/
def rstSample : PortSample := { PortSample.quiet with rst := true }

theorem witness_ResetEdgeAbandonsCommand : (portNow { demoResp 0 with ports := [rstSample] }).rst = true := rfl

theorem witness_FirstEdgeAfterResetAcceptsCommand :
    ∃ s t : State, (portNow s).rst = true ∧ step s = .next t ∧ ordinary t ∧ (portNow t).cmdValid = true :=
  ⟨{ demoIdle with ports := [rstSample, offerCommand 0x02 0] }, _, rfl, rfl, ⟨rfl, rfl⟩, rfl⟩

theorem witness_DrawBeforeSeedIsDefined :
    ∃ s t : State, s.cfg.wf = true ∧ (portNow s).rst = true ∧ step s = .next t :=
  ⟨{ demoIdle with ports := [rstSample] }, _, by decide, rfl, rfl⟩

theorem witness_AcceptanceLatchesCommand_accepts :
    ∃ s : State, ordinary s ∧ s.PHASE = .idle ∧ (portNow s).cmdValid = true :=
  ⟨{ demoIdle with ports := [offerCommand 0x02 0] }, ⟨rfl, rfl⟩, rfl, rfl⟩

theorem witness_AcceptanceLatchesCommand_ignores :
    ∃ (s : State) (p : PortSample) (rest : List PortSample), s.ports = p :: rest ∧
      ¬ (p.rst = false ∧ s.PHASE = .idle ∧ p.cmdValid = true) :=
  ⟨{ demoResp 0 with ports := [offerCommand 0x02 0] }, _, _, rfl, by decide⟩

theorem witness_CommandReadyExactlyWhenIdle_accepts :
    eventOf { demoIdle with ports := [offerCommand 0x02 9] } = some (.accepted 0x02 9) := by decide

theorem witness_CommandReadyExactlyWhenIdle_executes :
    ∃ s t : State, step s = .next t ∧ s.PHASE ≠ .idle ∧ t.PHASE = .exec :=
  ⟨demoExec 0x01 1337 seeded6, _, rfl, by decide, rfl⟩

theorem witness_ResponseIsPresentedAndHeld :
    ∃ s t : State, ordinary s ∧ s.PHASE = .resp ∧ (portNow s).rspReady = false ∧ step s = .next t :=
  ⟨demoResp 0, _, ⟨rfl, rfl⟩, rfl, rfl, rfl⟩

theorem witness_ResponseTransfer_taken : ∃ s : State, ordinary s ∧ s.PHASE = .resp ∧
    reservedStatus s.RSP_STATUS = false ∧ (portNow s).rspReady = true :=
  ⟨{ demoResp 1 with ports := [takeSample] }, ⟨rfl, rfl⟩, rfl, by decide, rfl⟩

theorem witness_ResponseTransfer_held : ∃ s : State, ordinary s ∧ s.PHASE = .resp ∧
    reservedStatus s.RSP_STATUS = false ∧ (portNow s).rspReady = false :=
  ⟨demoResp 0, ⟨rfl, rfl⟩, rfl, by decide, rfl⟩

theorem witness_IdleWaitsForCommand : ∃ s : State, ordinary s ∧ s.PHASE = .idle ∧ (portNow s).cmdValid = false :=
  ⟨demoIdle, ⟨rfl, rfl⟩, rfl, rfl⟩

theorem witness_RefusedExactlyWhenUnarbitrated :
    step { demoIdle with ports := [{ PortSample.quiet with contested := true }] } = .refused .unarbitratedPort := rfl

theorem witness_FaultsExactlyOnReservedStatus : step (demoResp 2) = .fault .reservedStatusPresented := rfl

theorem witness_DecodeEncodeRoundTrip : ∃ (c : Command) (i : Instr), decode c = .ok i ∧ readsArgument i = true :=
  ⟨0x040000000000000064, .sample 100, by decide, rfl⟩

theorem witness_DecoderSelectsByOpcodeAlone_boundaries :
    decodeFields 0x01 7 = .ok (.seed 7) ∧ decodeFields 0x05 7 = .ok (.onein 7) ∧
    decodeFields 0x00 7 = .error (.illegalOpcode 0x00) ∧ decodeFields 0x06 7 = .error (.illegalOpcode 0x06) := by decide

theorem witness_IllegalOpcodesRespondIllegal : ∃ s : State, ordinary s ∧ s.PHASE = .exec ∧ s.OP_R.toNat = 0 :=
  ⟨demoExec 0x00 1 seeded6, ⟨rfl, rfl⟩, rfl, rfl⟩

theorem witness_IllegalOpcodesRespondIllegal_high : ∃ s : State, ordinary s ∧ s.PHASE = .exec ∧ 6 ≤ s.OP_R.toNat :=
  ⟨demoExec 0x06 1 seeded6, ⟨rfl, rfl⟩, rfl, by decide⟩

theorem witness_StepRunsDecodedCommand :
    ∃ (s : State) (i : Instr), ordinary s ∧ s.PHASE = .exec ∧ decodeFields s.OP_R s.ARG_R = .ok i :=
  ⟨demoExec 0x04 100 seeded6, _, ⟨rfl, rfl⟩, rfl, rfl⟩

theorem witness_StepRunsDecodedCommand_illegal :
    ∃ (s : State) (e : DecodeError), ordinary s ∧ s.PHASE = .exec ∧ decodeFields s.OP_R s.ARG_R = .error e :=
  ⟨demoExec 0x00 100 seeded6, _, ⟨rfl, rfl⟩, rfl, rfl⟩

theorem witness_StepRunsDecodedCommand_placed : decodeTableWord 72 0x010000000000000539 = some (.seed 1337) := by decide

theorem witness_DrawsIgnoreArgument : ∃ s : State, ordinary s ∧ s.PHASE = .exec ∧ s.OP_R = 0x03 :=
  ⟨demoExec 0x03 5 seeded6, ⟨rfl, rfl⟩, rfl, rfl⟩

theorem witness_assembler_operands : (18446744073709551615 : Nat) < 2 ^ 64 ∧ 2 ^ 64 ≤ (18446744073709551616 : Nat) := by
  decide

theorem witness_params_wf : ∃ p : Params, p.wf = true := ⟨demoParams, by decide⟩

theorem witness_ExpandClosedForm : (3 : Nat) < 4 := by decide

/-- A vector of parameters, inadmissible, whose expansion of 0 is all zero: the guard itself is not vacuous. -/
theorem witness_ZeroGuardSubstitutesFallback :
    expand { demoParams with expGamma := 0 } 0 = Quad.zero ∧ expand demoParams 0 ≠ Quad.zero ∧
    demoParams.fallback ≠ Quad.zero := by decide

theorem witness_SeedInternalSteps : ∃ s1 s2 s3 : State, s1.pos ≠ .expanding ∧
    (s2.pos = .expanding ∧ s2.K.toNat < 4) ∧ (s3.pos = .expanding ∧ 4 ≤ s3.K.toNat) :=
  ⟨demoIdle, { demoIdle with pos := .expanding, K := 3 }, { demoIdle with pos := .expanding, K := 4 }, by decide⟩

theorem witness_command_start : (demoExec 0x01 1337 seeded6).pos = .start := rfl

theorem witness_AdvanceIsBijection : seeded6 ≠ Quad.zero ∧ demoParams.wf = true := by decide

theorem witness_OutputLaws : ∃ s t u : State, exec .draw64 s = .next t ∧ exec .draw32 s = .next u :=
  ⟨demoIdle, _, _, rfl, rfl⟩

theorem witness_Draw64ReturnsDraw : (demoExec 0x02 0 ⟨1, 0, 0, 0⟩).S.w1 = 0 := rfl

-- V-SMP-1
theorem witness_IsPow2Characterised : isPow2 1 = true ∧ isPow2 0x8000000000000000 = true ∧ isPow2 0 = false ∧
    isPow2 0x8000000000000001 = false ∧ (1 : Word).toNat = 2 ^ 0 ∧ (0x8000000000000000 : Word).toNat = 2 ^ 63 := by decide

theorem witness_generalBound : generalBound 3 = true ∧ generalBound 0xFFFFFFFFFFFFFFFF = true ∧ generalBound 2 = false ∧
    generalBound 0 = false := by decide

-- V-SMP-23, V-SMP-24
theorem witness_AcceptanceOnExactIntegers : judgeDraw .lemire 0xFFFFFFFFFFFFFFFF 0xFFFFFFFFFFFFFFFF =
    some 0xFFFFFFFFFFFFFFFE ∧ judgeDraw .modulo 5 0x3333333333333333 = some 3 := by decide

-- V-SMP-13 and V-SMP-12
theorem witness_SamplerLaws : (0x8000000000000001 : Word) ≤ lo64 (mul128 1 0x8000000000000001) ∧
    judgeDraw .lemire 100 0xFFFFFFFFFFFFFFFF = some 0x63 ∧ isPow2 16 = true := by decide

theorem witness_AcceptanceIsUniform : generalBound 6 = true ∧ (5 : Word) < 6 := by decide

theorem witness_DegenerateBoundsMakeNoDraw :
    (demoExec 0x05 1 seeded6).pos = .start ∧ (1 : Word).toNat ≤ 1 ∧ (0 : Word).toNat ≤ 1 := by decide

theorem witness_GeneralPathSetup : (demoExec 0x04 3 seeded6).pos = .start ∧ generalBound 3 = true ∧
    (demoExec 0x04 3 seeded6).cfg.samplerAlg = .lemire ∧ (moduloExec 0x05 3 seeded6).cfg.samplerAlg = .modulo := by decide

-- program P3, draw 1
theorem witness_LoopIteration_rejects :
    loopTest .lemire 0x8000000000000001 0x7FFFFFFFFFFFFFFF 0 (genOut seeded6) = none := by decide

-- V-SMP-11
theorem witness_LoopIteration_accepts : loopTest .lemire 100 16 0 (genOut seeded1337) = some 0x43 := by decide

-- program P3: two rejected draws under LEMIRE, then the third accepted
theorem witness_SampleReturnsFirstAcceptedDraw :
    generalBound 0x8000000000000001 = true ∧
    (∀ m, m < 2 → judgeDraw .lemire 0x8000000000000001 (drawAt demoParams m seeded6) = none) ∧
    judgeDraw .lemire 0x8000000000000001 (drawAt demoParams 2 seeded6) = some 0x707D5D3554D2D424 := by decide

-- program P3 under MODULO: three rejected draws
theorem witness_RejectedDrawsKeepExecuting :
    ∀ m, m < 3 → judgeDraw .modulo 0x8000000000000001 (drawAt demoParams m seeded6) = none := by decide

-- V-ONE-5
theorem witness_OneinTestsFirstAcceptedDraw :
    judgeDraw .lemire 3 (drawAt demoParams 0 seeded1337) = some 2 ∧
    judgeDraw .modulo 3 (drawAt demoParams 0 seeded1337) = some 0 := by decide

theorem witness_OneinPowerOfTwoTestsLowBits : (2 : Word).toNat = 2 ^ 1 ∧ (0x8000000000000000 : Word).toNat = 2 ^ 63 := by
  decide

/-- A state at the start of a command, over a non-zero generator state, meets the invariant. -/
theorem inv_demoExec (op : Opcode) (arg : Word) : Inv (demoExec op arg seeded6) where
  params := by
    show demoParams.wf = true
    decide
  nonzero := by
    show seeded6 ≠ Quad.zero
    decide
  expanding := by simp [demoExec, demoIdle]
  drawing := by simp [demoExec, demoIdle]
  status := by simp [demoExec]

theorem witness_SampleResponseIsInRange : ∃ s t : State, Inv s ∧ ordinary s ∧ s.PHASE = .exec ∧ s.OP_R = 0x04 ∧
    step s = .next t ∧ t.PHASE = .resp ∧ s.ARG_R ≠ 0 :=
  ⟨demoExec 0x04 16 seeded6, _, inv_demoExec _ _, ⟨rfl, rfl⟩, rfl, rfl, rfl, rfl, by decide⟩

theorem witness_LegalCommandsAlwaysRespondOk :
    ∃ s t : State, ordinary s ∧ s.PHASE = .exec ∧ step s = .next t ∧ t.PHASE = .resp :=
  ⟨demoExec 0x02 0 seeded6, _, ⟨rfl, rfl⟩, rfl, rfl, rfl⟩

theorem witness_Reachable : Reachable Config.params State.reset := .reset _ rfl reset_S rfl

/-- A state that presents a response after DRAW64 is reachable. -/
theorem witness_ReservedStatusNeverProduced : ∃ s : State, Reachable Config.params s ∧ s.PHASE = .resp := by
  have h0 : Reachable Config.params { State.reset with ports := [offerCommand 0x02 0] } := .reset _ rfl (by simp) rfl
  exact ⟨_, .step _ _ (.step _ _ h0 rfl) rfl, rfl⟩

theorem witness_StepKeepsInvariant : ∃ s t : State, Inv s ∧ step s = .next t :=
  ⟨demoExec 0x01 1337 seeded6, _, inv_demoExec _ _, rfl⟩

theorem witness_GeneratorStateIsNeverZero :
    ∃ s t : State, s.cfg.wf = true ∧ s.S ≠ Quad.zero ∧ step s = .next t :=
  ⟨demoExec 0x02 0 seeded6, _, by decide, by decide, rfl⟩

theorem witness_ParametersAreFixed : ∃ s t : State, step s = .next t := ⟨demoIdle, _, rfl⟩

theorem witness_AdmittedStepsAlwaysContinue : ∃ s : State, Inv s ∧ (portNow s).contested = false :=
  ⟨demoExec 0x05 3 seeded6, inv_demoExec _ _, rfl⟩

/-- Two alike states that differ in the registers that are not live. -/
theorem witness_LeftoverRegistersAreNeverRead : ∃ s t : State, Alike s t ∧ s ≠ t :=
  ⟨demoIdle, { demoIdle with ACC := 5, OP_R := 9, RSP_DATA := 3 },
    ⟨rfl, rfl, rfl, rfl, by simp [demoIdle], by simp [demoIdle], by simp [demoIdle], by simp [demoIdle]⟩,
    fun h => absurd (congrArg State.ACC h) (by decide)⟩

theorem witness_ReseedingReproducesResponses :
    (∃ u rs, runProgram 6 [(0x01, 42), (0x02, 0)] demoIdle = some (u, rs)) ∧
    ∃ v rs', runProgram 7 [(0x01, 42), (0x02, 0)] { demoIdle with S := ⟨9, 9, 9, 9⟩, ACC := 1 } = some (v, rs') :=
  ⟨⟨_, _, rfl⟩, ⟨_, _, rfl⟩⟩

theorem witness_CommandsCompleteThroughThePorts : demoIdle.PHASE = .idle ∧ generalBound 16 = false ∧
    generalBound 1 = false ∧ isPow2 16 = true := by decide

theorem witness_InstancesShareNothing : ∃ y z : System, y.turn = [1] ∧ systemStep y = .next z ∧ y.wf = true :=
  ⟨⟨[demoIdle, demoExec 0x02 0 seeded6], [1]⟩, _, rfl, rfl, rfl⟩

theorem witness_InstanceStepsCommute : ∃ y z : System,
    systemStep ⟨[demoIdle, demoExec 0x02 0 seeded6], [0, 1]⟩ = .next y ∧ systemStep y = .next z :=
  ⟨_, _, rfl, rfl⟩

end Sys2Proof.Tests
end

section
/-! PROOF. What one step of the block can do, said once: the relation `Move` lists the next states with their guards,
and `move_of_step` shows that every step is one of them.  Then the parameters, the host's samples and the writers of
`S` (`10_state.md` R22, R32). -/

namespace Sys2Proof.Machine

/-! ### From a decoded command back to the opcode -/

/-- What a word that decodes says of its opcode and argument. -/
theorem decodeFields_ok {op : Opcode} {arg : Word} {i : Instr} (h : decodeFields op arg = .ok i) :
    (op = 0x01 ∧ i = .seed arg) ∨ (op = 0x02 ∧ i = .draw64) ∨ (op = 0x03 ∧ i = .draw32) ∨
    (op = 0x04 ∧ i = .sample arg) ∨ (op = 0x05 ∧ i = .onein arg) := by
  rcases decodeFields_cases op arg with ⟨hop, hd⟩ | ⟨hop, hd⟩ | ⟨hop, hd⟩ | ⟨hop, hd⟩ | ⟨hop, hd⟩ | ⟨-, -, -, -, -, hd⟩ <;>
    cases hd.symm.trans h <;> simp [hop]

theorem decodeFields_eq_seed {op : Opcode} {arg seed : Word} (h : decodeFields op arg = .ok (.seed seed)) :
    op = 0x01 ∧ seed = arg := by
  simpa using decodeFields_ok h

theorem decodeFields_eq_sampler {op : Opcode} {arg b : Word} {i : Instr} (h : decodeFields op arg = .ok i)
    (hi : i = .sample b ∨ i = .onein b) : (op = 0x04 ∨ op = 0x05) ∧ b = arg := by
  rcases hi with rfl | rfl
  · have c : op = 0x04 ∧ b = arg := by simpa using decodeFields_ok h
    exact ⟨.inl c.1, c.2⟩
  · have c : op = 0x05 ∧ b = arg := by simpa using decodeFields_ok h
    exact ⟨.inr c.1, c.2⟩

theorem decodeFields_ne_seed {op : Opcode} {arg : Word} {i : Instr} (h : decodeFields op arg = .ok i)
    (hi : ∀ seed, i ≠ .seed seed) : op = 0x02 ∨ op = 0x03 ∨ op = 0x04 ∨ op = 0x05 :=
  ((decodeFields_ok h).resolve_left fun c => hi arg c.2).imp And.left (Or.imp And.left (Or.imp And.left And.left))

/-! ### The moves of the block -/

/-- The next states of one step, each under the conditions in which the step takes it. -/
inductive Move (s : State) : State → Prop where
  /-- an edge with `rst = 1` (R230) -/
  | reset (hr : (portNow s).rst = true) : Move s (resetEdge (dropPort s))
  /-- no command offered in `IDLE` (R214), or a response not taken in `RESP` (R75) -/
  | stay (ho : ordinary s) (hp : s.PHASE ≠ .exec) : Move s (dropPort s)
  /-- a command is accepted (R72) -/
  | accept (ho : ordinary s) (hp : s.PHASE = .idle) :
      Move s (acceptCommand (portNow s).cmdOp (portNow s).cmdArg (dropPort s))
  /-- a response is taken (R75) -/
  | take (ho : ordinary s) (hp : s.PHASE = .resp) : Move s (takeResponse (dropPort s))
  /-- a response with no draw: the ILLEGAL outcome (R202), or a degenerate bound (R162, R173) -/
  | answer (ho : ordinary s) (hp : s.PHASE = .exec) (st : Status) (d : Word) : Move s (respond st d (dropPort s))
  /-- a response after one draw (R135, R136, R163, R167) -/
  | answerDraw (ho : ordinary s) (hp : s.PHASE = .exec)
      (hop : s.OP_R = 0x02 ∨ s.OP_R = 0x03 ∨ s.OP_R = 0x04 ∨ s.OP_R = 0x05) (d : Word) :
      Move s (respond .ok d (nextState (dropPort s)))
  /-- SEED loads the accumulator (R102) -/
  | load (ho : ordinary s) (hp : s.PHASE = .exec) (hop : s.OP_R = 0x01) : Move s (expandStart s.ARG_R (dropPort s))
  /-- SEED makes one expansion output (R102) -/
  | iterate (ho : ordinary s) (hp : s.PHASE = .exec) (hpos : s.pos = .expanding) (hk : s.K < 4) :
      Move s (expandIteration (dropPort s))
  /-- SEED writes `S` and responds (R104, R107) -/
  | commit (ho : ordinary s) (hp : s.PHASE = .exec) (hop : s.OP_R = 0x01) (hpos : s.pos = .expanding) (hk : ¬ s.K < 4) :
      Move s (respond .ok 0 (expandCommit (dropPort s)))
  /-- SAMPLE or ONEIN enters the general path (R167) -/
  | setup (ho : ordinary s) (hp : s.PHASE = .exec) (hop : s.OP_R = 0x04 ∨ s.OP_R = 0x05)
      (hb : generalBound s.ARG_R = true) : Move s (sampleSetup s.ARG_R (dropPort s))
  /-- SAMPLE or ONEIN rejects a draw (R167) -/
  | reject (ho : ordinary s) (hp : s.PHASE = .exec) (hop : s.OP_R = 0x04 ∨ s.OP_R = 0x05) (hpos : s.pos = .drawing) :
      Move s (nextState (dropPort s))

/-- An internal step of a decoded command is a move. -/
theorem move_of_exec {s t : State} {i : Instr} (ho : ordinary s) (hp : s.PHASE = .exec)
    (hd : decodeFields s.OP_R s.ARG_R = .ok i) (h : exec i (dropPort s) = .next t) : Move s t := by
  rcases exec_cases i (dropPort s) with ⟨d, he⟩ | ⟨d, he, hi⟩ | ⟨seed, rfl, hpos, hk, he⟩ | ⟨seed, rfl, -, he⟩ |
    ⟨seed, rfl, hpos, hk, he⟩ | ⟨b, hi, -, hb, he⟩ | ⟨b, hi, hpos, he⟩ <;> cases he.symm.trans h
  · exact .answer ho hp .ok d
  · exact .answerDraw ho hp (decodeFields_ne_seed hd hi) d
  · exact .commit ho hp (decodeFields_eq_seed hd).1 hpos hk
  · obtain ⟨hop, rfl⟩ := decodeFields_eq_seed hd
    exact .load ho hp hop
  · exact .iterate ho hp hpos hk
  · obtain ⟨hop, rfl⟩ := decodeFields_eq_sampler hd hi
    exact .setup ho hp hop hb
  · exact .reject ho hp (decodeFields_eq_sampler hd hi).1 hpos

/-- Every step that answers a next state is a move. -/
theorem move_of_step {s t : State} (h : step s = .next t) : Move s t := by
  rcases step_cases h with ⟨hr, rfl⟩ | ⟨ho, hp, rfl⟩ | ⟨ho, hp, he⟩ | ⟨ho, hp, he⟩
  · exact .reset hr
  · unfold idleStep
    split
    · exact .accept ho hp
    · exact .stay ho (by simp [hp])
  · rcases execStep_cases (dropPort s) with ⟨i, hd, hi⟩ | ⟨e, -, hi⟩
    · exact move_of_exec ho hp hd (hi.symm.trans he)
    · cases hi.symm.trans he
      exact .answer ho hp .illegal 0
  · rcases respStep_cases (portNow s) (dropPort s) with ⟨-, hr⟩ | ⟨-, -, hr⟩ | ⟨-, -, hr⟩ <;> cases hr.symm.trans he
    · exact .take ho hp
    · exact .stay ho (by simp [hp])

/-! ### What every move keeps -/

theorem Move.cfg_eq {s t : State} (m : Move s t) : t.cfg = s.cfg := by
  cases m <;> simp

theorem Move.ports_eq {s t : State} (m : Move s t) : t.ports = s.ports.tail := by
  cases m <;> simp

/-- Settles O52: each move's frame has the parameters, and consumes the sample. -/
theorem parametersAreFixed : Obligations.ParametersAreFixed :=
  fun _ _ h => ⟨(move_of_step h).cfg_eq, (move_of_step h).ports_eq⟩

/-- Settles O1: the fields of the state right after reset. -/
theorem resetStateIsSeededAndIdle : Obligations.ResetStateIsSeededAndIdle :=
  ⟨reset_S, reset_PHASE, by simp [cmdReady], fun r => by simp [rspValid]⟩

/-! ### What writes `S` -/

/-- At the end of the expansion the buffer holds `Expand(ARG_R)` (R102). -/
theorem ExpandingInv.buffer_eq {s : State} (h : ExpandingInv s) (hk : ¬ s.K < 4) : s.E = expand s.cfg s.ARG_R := by
  obtain ⟨-, -, -, hE⟩ := h
  rw [BitVec.lt_def] at hk
  exact quad_ext fun j hj => hE j (lt_of_lt_of_le hj (Nat.le_of_not_lt hk))

/-- Settles O51, by the moves: four of them write `S`, and the commit of SEED writes the vector that the invariant says
the buffer holds. -/
theorem onlyDrawsSeedAndResetWriteS : Obligations.OnlyDrawsSeedAndResetWriteS := by
  intro s t hi h
  cases move_of_step h with
  | reset hr => exact .inr (.inl ⟨hr, rfl⟩)
  | answerDraw ho hp hop d => exact .inr (.inr (.inr ⟨ho, hp, hop, rfl⟩))
  | reject ho hp hop _ => exact .inr (.inr (.inr ⟨ho, hp, .inr (.inr hop), rfl⟩))
  | commit ho hp hop hpos hk =>
    have hE := (hi.expanding hp hpos).buffer_eq hk
    exact .inr (.inr (.inl ⟨ho, hp, hop, rfl, by simp [hE, seedInit]⟩))
  | stay | accept | take | answer | load | iterate | setup => exact .inl (by simp)

end Sys2Proof.Machine
end

section
/-! PROOF. `S` is never all zero (`10_state.md` R21), and every step keeps the invariant `Inv`: one lemma per
field of `Inv`, each a case split over the moves. -/

namespace Sys2Proof.Machine

/-! ### Admissible parameters -/

theorem params_wf_iff (p : Params) : p.wf = true ↔
    p.oddConstants = true ∧ p.expanderShifts = true ∧ p.generatorShifts = true ∧ p.fallback ≠ Quad.zero := by
  simp [Params.wf, nonzeroQuad, and_assoc]

theorem generatorShifts_iff (p : Params) :
    p.generatorShifts = true ↔ (1 ≤ p.genA ∧ p.genA ≤ 63) ∧ 1 ≤ p.genB ∧ p.genB ≤ 63 := by
  simp [Params.generatorShifts, shiftAmount]

/-! ### The generator and the expander make no zero vector -/

/-- A left shift by a positive amount fixes only 0: a fixed bit `i` is the bit `k` below it. -/
theorem eq_zero_of_shiftLeft_eq_self {w : Word} {k : Nat} (hk : 1 ≤ k) (h : w <<< k = w) : w = 0 := by
  have hbit : ∀ i, w.getLsbD i = false := by
    intro i
    induction i using Nat.strong_induction_on with
    | _ i ih =>
      rw [← h, BitVec.getLsbD_shiftLeft]
      by_cases hi : i < k
      · simp [hi]
      · simp [ih (i - k) (by omega)]
  exact BitVec.eq_of_getLsbD_eq fun i _ => by simp [hbit i]

/-- A left rotation by `k` moves bit `i` to bit `i + k`, around the end of the word. -/
theorem getLsbD_rotl64 (w : Word) {k i : Nat} (hk : k ≤ 63) (hi : i < 64) :
    (rotl64 w k).getLsbD ((i + k) % 64) = w.getLsbD i := by
  unfold rotl64
  split
  case isTrue h0 => simp [h0, Nat.mod_eq_of_lt hi]
  case isFalse h0 =>
    rw [BitVec.getLsbD_or, BitVec.getLsbD_shiftLeft, BitVec.getLsbD_ushiftRight]
    by_cases hw : i + k < 64
    · have hout : 64 ≤ 64 - k + (i + k) := by omega
      simp [Nat.mod_eq_of_lt hw, hw, BitVec.getLsbD_of_ge w _ hout]
    · have hm : (i + k) % 64 = i + k - 64 := by omega
      have hlow : i + k - 64 < k := by omega
      have hback : 64 - k + (i + k - 64) = i := by omega
      simp [hm, hlow, hback]

theorem rotl64_injective {k : Nat} (hk : k ≤ 63) : Function.Injective (rotl64 · k) := by
  intro a b h
  refine BitVec.eq_of_getLsbD_eq fun i hi => ?_
  have hab : rotl64 a k = rotl64 b k := h
  rw [← getLsbD_rotl64 a hk hi, hab, getLsbD_rotl64 b hk hi]

@[simp] theorem rotl64_zero (k : Nat) : rotl64 0 k = 0 := by
  simp [rotl64]

/-- `Advance` maps only the all-zero state to it (R133). -/
theorem advance_ne_zero {p : Params} {q : Quad} (hp : p.wf = true) (hq : q ≠ Quad.zero) :
    advance p q ≠ Quad.zero := by
  intro h
  obtain ⟨-, -, hshift, -⟩ := (params_wf_iff p).mp hp
  obtain ⟨⟨hA, -⟩, -, hB⟩ := (generatorShifts_iff p).mp hshift
  obtain ⟨w0, w1, w2, w3⟩ := q
  simp only [advance, Quad.zero, Quad.mk.injEq] at h
  obtain ⟨h0, h1, h2, h3⟩ := h
  have h31 : w3 ^^^ w1 = 0 := rotl64_injective hB (h3.trans (rotl64_zero _).symm)
  have hw0 : w0 = 0 := by simpa [h31] using h0
  have hw2 : w1 = w2 := by simpa [hw0, BitVec.xor_eq_zero_iff] using h1
  have hw1 : w1 = 0 := by
    have hfix : w1 = w1 <<< p.genA := BitVec.xor_eq_zero_iff.mp (by simpa [hw0, ← hw2] using h2)
    exact eq_zero_of_shiftLeft_eq_self hA hfix.symm
  subst hw0 hw2 hw1
  exact hq (by simpa [Quad.zero] using h31)

/-- The guard lets no zero vector through (R104). -/
theorem zeroGuard_ne_zero {p : Params} (e : Quad) (hp : p.wf = true) : zeroGuard p e ≠ Quad.zero := by
  obtain ⟨-, -, -, hf⟩ := (params_wf_iff p).mp hp
  unfold zeroGuard
  split
  case isTrue => exact hf
  case isFalse he =>
    rintro rfl
    exact he ⟨rfl, rfl, rfl, rfl⟩

theorem seedInit_ne_zero {p : Params} (seed : Word) (hp : p.wf = true) : seedInit p seed ≠ Quad.zero :=
  zeroGuard_ne_zero _ hp

/-- No move writes the zero vector to `S` (R21). -/
theorem Move.S_ne_zero {s t : State} (m : Move s t) (hp : s.cfg.wf = true) (hS : s.S ≠ Quad.zero) :
    t.S ≠ Quad.zero := by
  cases m with
  | reset => exact seedInit_ne_zero _ hp
  | commit => exact zeroGuard_ne_zero _ hp
  | answerDraw | reject => exact advance_ne_zero hp hS
  | stay | accept | take | answer | load | iterate | setup => simpa using hS

/-! ### The live registers of the two loops -/

/-- After the accumulator is loaded no output is due yet (R102). -/
theorem expandingInv_expandStart {s : State} (hop : s.OP_R = 0x01) : ExpandingInv (expandStart s.ARG_R s) := by
  simp [ExpandingInv, hop]

/-- The accumulator after one more addition of `EXP_GAMMA` (R102). -/
theorem accumulator_succ (seed gamma : Word) (k : Nat) :
    seed + BitVec.ofNat 64 (k + 1) * gamma = seed + BitVec.ofNat 64 k * gamma + gamma := by
  rw [BitVec.ofNat_add, BitVec.add_mul, BitVec.one_mul, BitVec.add_assoc]

/-- Output `k` of the expansion mixes the accumulator after `k + 1` additions (R102, R103). -/
theorem getQuad_expand (p : Params) (seed : Word) {k : Nat} (hk : k < 4) :
    getQuad (expand p seed) k = mix p (seed + BitVec.ofNat 64 (k + 1) * p.expGamma) := by
  have h : k = 0 ∨ k = 1 ∨ k = 2 ∨ k = 3 := by omega
  rcases h with rfl | rfl | rfl | rfl <;> simp only [accumulator_succ] <;> simp [expand, getQuad]

/-- The counter does not wrap around inside the loop. -/
theorem toNat_add_one_of_lt_four {k : BitVec 3} (hk : k < 4) : (k + 1).toNat = k.toNat + 1 := by
  bv_omega

/-- One step of the expansion adds the output for `K` to the ones before it (R102). -/
theorem ExpandingInv.expandIteration {s : State} (h : ExpandingInv s) (hk : s.K < 4) :
    ExpandingInv (expandIteration s) := by
  obtain ⟨hop, -, hacc, hE⟩ := h
  have hk4 : s.K.toNat < 4 := hk
  have hK : (Machine.expandIteration s).K.toNat = s.K.toNat + 1 := toNat_add_one_of_lt_four hk
  have hA : s.ACC + s.cfg.expGamma = s.ARG_R + BitVec.ofNat 64 (s.K.toNat + 1) * s.cfg.expGamma := by
    rw [accumulator_succ, hacc]
  refine ⟨hop, by omega, ?_, fun j hj => ?_⟩
  · rw [hK]
    exact hA
  · rw [expandIteration_E, getQuad_setQuad _ _ (by omega) hk4]
    split
    case isTrue hjk => rw [hjk, hA, ← getQuad_expand _ _ hk4]; rfl
    case isFalse hjk => exact hE j (by omega)

/-- The setup step leaves the registers of the general path as their rules write them (R164, R165). -/
theorem drawingInv_sampleSetup {s : State} (hop : s.OP_R = 0x04 ∨ s.OP_R = 0x05) (hb : generalBound s.ARG_R = true) :
    DrawingInv (sampleSetup s.ARG_R s) := by
  refine ⟨by simpa using hop, by simp, by simpa using hb, fun ha => ?_, fun ha => ?_⟩
  · rw [sampleSetup_lemire s _ (by simpa using ha)]
  · rw [sampleSetup_modulo s _ (by simpa using ha)]

/-! ### The invariant -/

theorem Move.expandingInv {s t : State} (m : Move s t) (hi : Inv s) (hp : t.PHASE = .exec) (hpos : t.pos = .expanding) :
    ExpandingInv t := by
  cases m with
  | load _ _ hop => exact expandingInv_expandStart (s := dropPort s) hop
  | iterate _ hps hpos hk => exact ExpandingInv.expandIteration (s := dropPort s) (hi.expanding hps hpos) hk
  | stay _ hps => exact absurd hp hps
  | reject _ _ _ hd => exact absurd (hd.symm.trans hpos) (by decide)
  | reset | accept | take | answer | answerDraw | commit | setup => simp at hp hpos

theorem Move.drawingInv {s t : State} (m : Move s t) (hi : Inv s) (hp : t.PHASE = .exec) (hpos : t.pos = .drawing) :
    DrawingInv t := by
  cases m with
  | setup _ _ hop hb => exact drawingInv_sampleSetup (s := dropPort s) hop hb
  | reject _ hps _ hd => exact hi.drawing hps hd
  | stay _ hps => exact absurd hp hps
  | iterate _ _ he => exact absurd (he.symm.trans hpos) (by decide)
  | reset | accept | take | answer | answerDraw | commit | load => simp at hp hpos

theorem Move.status {s t : State} (m : Move s t) (hi : Inv s) (hp : t.PHASE = .resp) :
    t.RSP_STATUS = statusBits .ok ∨ t.RSP_STATUS = statusBits .illegal := by
  cases m with
  | stay => exact hi.status hp
  | answer _ _ st => cases st <;> simp
  | answerDraw | commit => exact .inl rfl
  | reset | accept | take => simp at hp
  | load _ hps | iterate _ hps | setup _ hps | reject _ hps => simp [hps] at hp

/-- Settles O49, field by field. -/
theorem stepKeepsInvariant : Obligations.StepKeepsInvariant := by
  intro s t hi h
  have m : Move s t := move_of_step h
  exact {
    params := m.cfg_eq ▸ hi.params
    nonzero := m.S_ne_zero hi.params hi.nonzero
    expanding := m.expandingInv hi
    drawing := m.drawingInv hi
    status := m.status hi }

/-- Under admissible parameters every reachable state meets the invariant. -/
theorem inv_of_reachable {p : Params} {s : State} (hp : p.wf = true) (hr : Reachable p s) : Inv s := by
  induction hr with
  | reset s hc hS hi =>
    exact ⟨hc ▸ hp, hS ▸ seedInit_ne_zero _ hp, by simp [hi], by simp [hi], by simp [hi]⟩
  | step s t _ h ih => exact stepKeepsInvariant s t ih h

/-- Settles O50: what establishes `S`, what advances it, every step, and every reachable state. -/
theorem generatorStateIsNeverZero : Obligations.GeneratorStateIsNeverZero :=
  ⟨fun _ seed hp => seedInit_ne_zero seed hp, fun _ _ hp hq => advance_ne_zero hp hq,
    fun _ _ hp hS h => (move_of_step h).S_ne_zero hp hS, fun _ _ hp hr => (inv_of_reachable hp hr).nonzero⟩

end Sys2Proof.Machine
end

section
/-! PROOF. No rule reads a register left over from an earlier command (`10_state.md` R35): `Alike` is kept by each named
operation, so by each command, so by every step. -/

namespace Sys2Proof.Machine

/-! ### The operations keep alike states alike -/

theorem Alike.portNow_eq {s t : State} (h : Alike s t) : portNow s = portNow t := by
  simp [portNow, h.ports]

theorem Alike.nextOutput_eq {s t : State} (h : Alike s t) : nextOutput s = nextOutput t := by
  simp [nextOutput, h.gen]

theorem Alike.dropPort {s t : State} (h : Alike s t) : Alike (dropPort s) (dropPort t) :=
  { h with ports := by simp [h.ports] }

theorem Alike.nextState {s t : State} (h : Alike s t) : Alike (nextState s) (nextState t) :=
  { h with gen := by simp [h.cfg, h.gen] }

/-- Out of `EXEC` and `RESP` no register but `S` is live. -/
theorem Alike.of_idle {s t : State} (hc : s.cfg = t.cfg) (hS : s.S = t.S) (hp : s.PHASE = .idle) (hq : t.PHASE = .idle)
    (hports : s.ports = t.ports) : Alike s t :=
  ⟨hc, hS, hp.trans hq.symm, hports, by simp [hp], by simp [hp], by simp [hp], by simp [hp]⟩

theorem Alike.resetEdge {s t : State} (h : Alike s t) : Alike (resetEdge s) (resetEdge t) :=
  .of_idle h.cfg (by simp [h.cfg]) rfl rfl h.ports

theorem Alike.takeResponse {s t : State} (h : Alike s t) : Alike (takeResponse s) (takeResponse t) :=
  .of_idle h.cfg h.gen rfl rfl h.ports

theorem Alike.acceptCommand {s t : State} (op : Opcode) (arg : Word) (h : Alike s t) :
    Alike (acceptCommand op arg s) (acceptCommand op arg t) :=
  ⟨h.cfg, h.gen, rfl, h.ports, by simp, by simp, by simp, by simp⟩

/-- A response shows its status and data; the registers of its command are live no longer. -/
theorem alike_respond {s t : State} (st : Status) (d : Word) (hc : s.cfg = t.cfg) (hS : s.S = t.S)
    (hports : s.ports = t.ports) : Alike (respond st d s) (respond st d t) :=
  ⟨hc, hS, rfl, hports, by simp, by simp, by simp, by simp⟩

theorem Alike.respond {s t : State} (st : Status) (d : Word) (h : Alike s t) :
    Alike (respond st d s) (respond st d t) :=
  alike_respond st d h.cfg h.gen h.ports

/-! ### SEED -/

theorem Alike.expandStart {s t : State} (seed : Word) (h : Alike s t) (hp : s.PHASE = .exec) :
    Alike (expandStart seed s) (expandStart seed t) where
  cfg := h.cfg
  gen := h.gen
  phase := h.phase
  ports := h.ports
  command _ := by
    obtain ⟨hop, harg, -⟩ := h.command hp
    exact ⟨hop, harg, rfl⟩
  expander := by simp
  sampler := by simp
  response := h.response

theorem Alike.expandIteration {s t : State} (h : Alike s t) (hp : s.PHASE = .exec) (hpos : s.pos = .expanding)
    (hk : s.K < 4) : Alike (expandIteration s) (expandIteration t) where
  cfg := h.cfg
  gen := h.gen
  phase := h.phase
  ports := h.ports
  command := h.command
  expander _ _ := by
    obtain ⟨hA, hK, hE⟩ := h.expander hp hpos
    have hk4 : s.K.toNat < 4 := hk
    refine ⟨by simp [hA, h.cfg], by simp [hK], fun j hj hj4 => ?_⟩
    have hj' : j < s.K.toNat + 1 := by rwa [expandIteration_K, toNat_add_one_of_lt_four hk] at hj
    simp only [expandIteration_E, ← hK, ← hA, ← h.cfg, getQuad_setQuad _ _ hj4 hk4]
    split
    case isTrue => rfl
    case isFalse hjk => exact hE j (by omega) hj4
  sampler _ hd := absurd (hpos.symm.trans hd) (by decide)
  response := h.response

/-- At the end of the expansion all four words of the buffer are live. -/
theorem Alike.expandCommit_S {s t : State} (h : Alike s t) (hp : s.PHASE = .exec) (hpos : s.pos = .expanding)
    (hk : ¬ s.K < 4) : (expandCommit s).S = (expandCommit t).S := by
  obtain ⟨-, -, hE⟩ := h.expander hp hpos
  have hk4 : 4 ≤ s.K.toNat := BitVec.not_lt.mp hk
  have hEq : s.E = t.E := quad_ext fun j hj => hE j (by omega) hj
  simp [hEq, h.cfg]

theorem Alike.execSeed {s t : State} (seed : Word) (h : Alike s t) (hp : s.PHASE = .exec) :
    alikeOutcomes (execSeed seed s) (execSeed seed t) := by
  obtain ⟨-, -, hpt⟩ := h.command hp
  by_cases hpos : s.pos = .expanding
  · obtain ⟨-, hK, -⟩ := h.expander hp hpos
    by_cases hk : s.K < 4
    · rw [execSeed_iterate seed s hpos hk, execSeed_iterate seed t (hpt ▸ hpos) (hK ▸ hk)]
      exact h.expandIteration hp hpos hk
    · rw [execSeed_commit seed s hpos hk, execSeed_commit seed t (hpt ▸ hpos) (hK ▸ hk)]
      exact alike_respond .ok 0 h.cfg (h.expandCommit_S hp hpos hk) h.ports
  · rw [execSeed_start seed s hpos, execSeed_start seed t (hpt ▸ hpos)]
    exact h.expandStart seed hp

/-! ### The draw commands -/

theorem Alike.execDraw64 {s t : State} (h : Alike s t) : alikeOutcomes (execDraw64 s) (execDraw64 t) := by
  rw [Machine.execDraw64, Machine.execDraw64, h.nextOutput_eq]
  exact h.nextState.respond .ok _

theorem Alike.execDraw32 {s t : State} (h : Alike s t) : alikeOutcomes (execDraw32 s) (execDraw32 t) := by
  rw [Machine.execDraw32, Machine.execDraw32, h.nextOutput_eq]
  exact h.nextState.respond .ok _

/-! ### The sampler's commands -/

theorem Alike.sampleSetup {s t : State} (b : Word) (h : Alike s t) (hp : s.PHASE = .exec) :
    Alike (sampleSetup b s) (sampleSetup b t) where
  cfg := by simp [h.cfg]
  gen := by simp [h.gen]
  phase := by simp [h.phase]
  ports := by simp [h.ports]
  command _ := by
    obtain ⟨hop, harg, -⟩ := h.command hp
    simp [hop, harg]
  expander := by simp
  sampler _ _ := by
    refine ⟨by simp, fun ha => ?_, fun ha => ?_⟩
    · rw [sampleSetup_cfg] at ha
      rw [sampleSetup_lemire s b ha, sampleSetup_lemire t b (h.cfg ▸ ha)]
    · rw [sampleSetup_cfg] at ha
      rw [sampleSetup_modulo s b ha, sampleSetup_modulo t b (h.cfg ▸ ha)]
  response := by simp [hp]

/-- The test reads the limit of its own algorithm alone. -/
theorem Alike.loopTest_eq {s t : State} (h : Alike s t) (hp : s.PHASE = .exec) (hpos : s.pos = .drawing) (x : Word) :
    loopTest s.cfg.samplerAlg s.SB s.STH s.SLIM x = loopTest t.cfg.samplerAlg t.SB t.STH t.SLIM x := by
  obtain ⟨hSB, hSTH, hSLIM⟩ := h.sampler hp hpos
  rw [← h.cfg, ← hSB]
  cases ha : s.cfg.samplerAlg with
  | lemire => rw [← hSTH ha]; rfl
  | modulo => rw [← hSLIM ha]; rfl

theorem Alike.sampleIteration {s t : State} (finish : Word → Word) (h : Alike s t) (hp : s.PHASE = .exec)
    (hpos : s.pos = .drawing) : Alike (sampleIteration finish s) (sampleIteration finish t) := by
  unfold Machine.sampleIteration
  rw [h.loopTest_eq hp hpos, h.nextOutput_eq]
  split
  · exact h.nextState.respond _ _
  · exact h.nextState

theorem Alike.sampleDispatch {s t : State} (finish : Word → Word) (b : Word) (h : Alike s t) (hp : s.PHASE = .exec) :
    Alike (sampleDispatch finish b s) (sampleDispatch finish b t) := by
  unfold Machine.sampleDispatch
  rw [h.nextOutput_eq]
  split_ifs
  · exact h.respond _ _
  · exact h.nextState.respond _ _
  · exact h.sampleSetup b hp

theorem Alike.execSample {s t : State} (b : Word) (h : Alike s t) (hp : s.PHASE = .exec) :
    alikeOutcomes (execSample b s) (execSample b t) := by
  obtain ⟨-, -, hpt⟩ := h.command hp
  by_cases hpos : s.pos = .drawing
  · rw [execSample_drawing b s hpos, execSample_drawing b t (hpt ▸ hpos)]
    exact h.sampleIteration id hp hpos
  · rw [execSample_dispatch b s hpos, execSample_dispatch b t (hpt ▸ hpos)]
    exact h.sampleDispatch id b hp

theorem Alike.execOnein {s t : State} (b : Word) (h : Alike s t) (hp : s.PHASE = .exec) :
    alikeOutcomes (execOnein b s) (execOnein b t) := by
  obtain ⟨-, -, hpt⟩ := h.command hp
  by_cases hpos : s.pos = .drawing
  · rw [execOnein_drawing b s hpos, execOnein_drawing b t (hpt ▸ hpos)]
    exact h.sampleIteration oneInData hp hpos
  · by_cases hb : b ≤ 1
    · rw [execOnein_degenerate b s hpos hb, execOnein_degenerate b t (hpt ▸ hpos) hb]
      exact h.respond .ok 1
    · rw [execOnein_dispatch b s hpos hb, execOnein_dispatch b t (hpt ▸ hpos) hb]
      exact h.sampleDispatch oneInData b hp

/-! ### Every step -/

theorem Alike.exec {s t : State} (i : Instr) (h : Alike s t) (hp : s.PHASE = .exec) :
    alikeOutcomes (exec i s) (exec i t) := by
  cases i with
  | seed seed => exact h.execSeed seed hp
  | draw64 => exact h.execDraw64
  | draw32 => exact h.execDraw32
  | sample b => exact h.execSample b hp
  | onein b => exact h.execOnein b hp

theorem Alike.execStep {s t : State} (h : Alike s t) (hp : s.PHASE = .exec) :
    alikeOutcomes (execStep s) (execStep t) := by
  obtain ⟨hop, harg, -⟩ := h.command hp
  unfold Machine.execStep
  rw [← hop, ← harg]
  split
  · exact h.exec _ hp
  · exact h.respond .illegal 0

theorem Alike.idleStep {s t : State} (p : PortSample) (h : Alike s t) : Alike (idleStep p s) (idleStep p t) := by
  unfold Machine.idleStep
  split
  · exact h.acceptCommand p.cmdOp p.cmdArg
  · exact h

theorem Alike.respStep {s t : State} (p : PortSample) (h : Alike s t) (hp : s.PHASE = .resp) :
    alikeOutcomes (respStep p s) (respStep p t) := by
  obtain ⟨hst, -⟩ := h.response hp
  unfold Machine.respStep
  rw [← hst]
  split_ifs
  · rfl
  · exact h.takeResponse
  · exact h

theorem step_of_contested (s : State) (hr : (portNow s).rst = false) (hc : (portNow s).contested = true) :
    step s = .refused .unarbitratedPort := by
  simp [step, hr, hc]

theorem Alike.step {s t : State} (h : Alike s t) : alikeOutcomes (step s) (step t) := by
  have hn := h.portNow_eq
  by_cases hr : (portNow s).rst = true
  · rw [step_of_rst s hr, step_of_rst t (hn ▸ hr)]
    exact h.dropPort.resetEdge
  · rw [Bool.not_eq_true] at hr
    by_cases hc : (portNow s).contested = true
    · rw [step_of_contested s hr hc, step_of_contested t (hn ▸ hr) (hn ▸ hc)]
      rfl
    · have ho : ordinary s := ⟨hr, by simpa using hc⟩
      have ho' : ordinary t := by rwa [ordinary, ← hn]
      cases hp : s.PHASE with
      | idle =>
        rw [step_of_idle s ho hp, step_of_idle t ho' (h.phase ▸ hp), ← hn]
        exact h.dropPort.idleStep _
      | exec =>
        rw [step_of_exec s ho hp, step_of_exec t ho' (h.phase ▸ hp)]
        exact h.dropPort.execStep hp
      | resp =>
        rw [step_of_resp s ho hp, step_of_resp t ho' (h.phase ▸ hp), ← hn]
        exact h.dropPort.respStep _ hp

/-! ### The ports -/

theorem Alike.eventOf_eq {s t : State} (h : Alike s t) : eventOf s = eventOf t := by
  unfold eventOf
  rw [← h.portNow_eq, ← h.phase]
  cases hp : s.PHASE with
  | idle | exec => rfl
  | resp =>
    obtain ⟨hst, hd⟩ := h.response hp
    rw [hst, hd]

theorem Alike.cmdReady_eq {s t : State} (h : Alike s t) (r : Bool) : cmdReady s r = cmdReady t r := by
  simp [cmdReady, h.phase]

theorem Alike.rspPort_eq {s t : State} (h : Alike s t) (r : Bool) : rspPort s r = rspPort t r := by
  have hv : rspValid s r = rspValid t r := by simp [rspValid, h.phase]
  unfold rspPort
  rw [← hv]
  split
  case isTrue hs =>
    have hp : s.PHASE = .resp := by
      simp only [rspValid, Bool.and_eq_true, decide_eq_true_eq] at hs
      exact hs.1
    obtain ⟨hst, hd⟩ := h.response hp
    rw [hst, hd]
  case isFalse => rfl

/-- Settles O54: `Alike` is a bisimulation, and alike states show the same ports. -/
theorem leftoverRegistersAreNeverRead : Obligations.LeftoverRegistersAreNeverRead :=
  fun _ _ h => ⟨h.step, h.eventOf_eq, fun r => ⟨h.cmdReady_eq r, h.rspPort_eq r⟩⟩

end Sys2Proof.Machine
end

section
/-! PROOF. When the machine stops without a next state (`20_memory.md` R61). -/

namespace Sys2Proof.Machine

/-! ### Which steps continue -/

/-- Every internal step of every command answers a next state (R200). -/
theorem exec_eq_next (i : Instr) (s : State) : ∃ t, exec i s = .next t := by
  rcases exec_cases i s with ⟨_, h⟩ | ⟨_, h, -⟩ | ⟨_, -, -, -, h⟩ | ⟨_, -, -, h⟩ | ⟨_, -, -, -, h⟩ | ⟨_, -, -, -, h⟩ |
    ⟨_, -, -, h⟩ <;> exact ⟨_, h⟩

theorem execStep_eq_next (s : State) : ∃ t, execStep s = .next t := by
  rcases execStep_cases s with ⟨i, -, h⟩ | ⟨_, -, h⟩
  · obtain ⟨t, ht⟩ := exec_eq_next i s
    exact ⟨t, h.trans ht⟩
  · exact ⟨_, h⟩

/-- An ordinary step is never refused: it continues, or faults on a reserved status. -/
theorem step_ne_refused_of_ordinary {s : State} (ho : ordinary s) (r : Refusal) : step s ≠ .refused r := by
  cases hp : s.PHASE with
  | idle => simp [step_of_idle s ho hp]
  | exec =>
    obtain ⟨t, ht⟩ := execStep_eq_next (dropPort s)
    simp [step_of_exec s ho hp, ht]
  | resp =>
    rw [step_of_resp s ho hp]
    rcases respStep_cases (portNow s) (dropPort s) with ⟨-, h⟩ | ⟨-, -, h⟩ | ⟨-, -, h⟩ <;> simp [h]

/-- Settles O10: a reset continues, a contested sample is refused, and an ordinary step never is. -/
theorem refusedExactlyWhenUnarbitrated : Obligations.RefusedExactlyWhenUnarbitrated := by
  intro s r
  by_cases hr : (portNow s).rst = true
  · simp [step_of_rst s hr, hr]
  · rw [Bool.not_eq_true] at hr
    by_cases hc : (portNow s).contested = true
    · simp [step_of_contested s hr hc, hr, hc, eq_comm]
    · have ho : ordinary s := ⟨hr, by simpa using hc⟩
      simp [step_ne_refused_of_ordinary ho r, hc]

end Sys2Proof.Machine
end

section
/-! PROOF. On one block acceptances and responses alternate (`20_memory.md` R57, R58): the phase says which of the two
the next port event can be, and each step leaves the phase its event calls for. -/

namespace Sys2Proof.Machine

/-! ### The port event of one step -/

theorem eventOf_of_rst {s : State} (h : (portNow s).rst = true) : eventOf s = some .reset := by
  simp [eventOf, h]

theorem eventOf_of_contested {s : State} (hr : (portNow s).rst = false) (hc : (portNow s).contested = true) :
    eventOf s = none := by
  simp [eventOf, hr, hc]

theorem eventOf_of_idle {s : State} (ho : ordinary s) (hp : s.PHASE = .idle) :
    eventOf s = if (portNow s).cmdValid then some (.accepted (portNow s).cmdOp (portNow s).cmdArg) else none := by
  simp [eventOf, ho.1, ho.2, hp]

theorem eventOf_of_exec {s : State} (ho : ordinary s) (hp : s.PHASE = .exec) : eventOf s = none := by
  simp [eventOf, ho.1, ho.2, hp]

theorem eventOf_of_resp {s : State} (ho : ordinary s) (hp : s.PHASE = .resp) :
    eventOf s = if (portNow s).rspReady then some (.responded ⟨s.RSP_STATUS, s.RSP_DATA⟩) else none := by
  simp [eventOf, ho.1, ho.2, hp]

/-- A command that executes stays in flight: it goes on, or presents its response (R73). -/
theorem Move.PHASE_ne_idle {s t : State} (m : Move s t) (ho : ordinary s) (hp : s.PHASE = .exec) : t.PHASE ≠ .idle := by
  cases m with
  | reset hr => simp [ho.1] at hr
  | take _ hps => simp [hp] at hps
  | stay | accept | answer | answerDraw | load | iterate | commit | setup | reject => simp [hp]

/-! ### The event and the phase -/

/-- The event of any step, one that stops included, is one its phase allows. -/
theorem alternates_eventOf (s : State) : alternates (decide (s.PHASE ≠ .idle)) (eventOf s).toList = true := by
  by_cases hr : (portNow s).rst = true
  · simp [eventOf_of_rst hr, alternates]
  · rw [Bool.not_eq_true] at hr
    by_cases hc : (portNow s).contested = true
    · simp [eventOf_of_contested hr hc, alternates]
    · have ho : ordinary s := ⟨hr, by simpa using hc⟩
      cases hp : s.PHASE with
      | idle => rw [eventOf_of_idle ho hp]; split <;> simp [alternates]
      | exec => simp [eventOf_of_exec ho hp, alternates]
      | resp => rw [eventOf_of_resp ho hp]; split <;> simp [alternates]

/-- After the event of a step that continues, a command is in flight exactly when the next phase says so. -/
theorem alternates_eventOf_append {s t : State} (h : step s = .next t) (es : List Event) :
    alternates (decide (s.PHASE ≠ .idle)) ((eventOf s).toList ++ es) = alternates (decide (t.PHASE ≠ .idle)) es := by
  rcases step_cases h with ⟨hr, rfl⟩ | ⟨ho, hp, rfl⟩ | ⟨ho, hp, -⟩ | ⟨ho, hp, he⟩
  · simp [eventOf_of_rst hr, alternates]
  · rw [eventOf_of_idle ho hp]
    unfold idleStep
    split <;> simp [alternates, hp]
  · have ht : t.PHASE ≠ .idle := (move_of_step h).PHASE_ne_idle ho hp
    simp [eventOf_of_exec ho hp, hp, ht]
  · rw [eventOf_of_resp ho hp]
    rcases respStep_cases (portNow s) (dropPort s) with ⟨-, hs⟩ | ⟨-, hrdy, hs⟩ | ⟨-, hrdy, hs⟩ <;>
      cases hs.symm.trans he <;> simp [alternates, hrdy, hp]

/-- Settles O55, by induction on the number of steps. -/
theorem acceptancesAndResponsesAlternate : Obligations.AcceptancesAndResponsesAlternate := by
  intro n
  induction n with
  | zero => exact fun _ => rfl
  | succ n ih =>
    intro s
    rw [trace]
    cases h : step s with
    | next t => exact (alternates_eventOf_append h _).trans (ih t)
    | fault | refused => simpa using alternates_eventOf s

end Sys2Proof.Machine
end

section
/-! PROOF. SEED through the ports (`40_seed_expander.md` R107, R109): how a command program's run of one command unrolls,
and SEED's run, by the invariant of the expansion. -/

namespace Sys2Proof.Machine

/-! ### One command of a program -/

theorem runToResponse_of_resp (fuel : Nat) {s : State} (hp : s.PHASE = .resp) : runToResponse fuel s = some s := by
  cases fuel <;> simp [runToResponse, hp]

theorem runToResponse_succ (fuel : Nat) {s t : State} (hp : s.PHASE ≠ .resp)
    (h : step { s with ports := [] } = .next t) : runToResponse (fuel + 1) s = runToResponse fuel t := by
  simp [runToResponse, hp, h]

/-- Under a quiet host a step in `EXEC` is a step of the command (R80). -/
theorem step_quiet_of_exec {s : State} {i : Instr} (hp : s.PHASE = .exec) (hd : decodeFields s.OP_R s.ARG_R = .ok i) :
    step { s with ports := [] } = exec i { s with ports := [] } := by
  rw [step_of_exec { s with ports := [] } ⟨rfl, rfl⟩ hp]
  rcases execStep_cases (dropPort { s with ports := [] }) with ⟨j, hj, he⟩ | ⟨e, hj, -⟩
  · cases hd.symm.trans hj
    exact he
  · cases hd.symm.trans hj

/-- A command of a program is accepted (R72), runs to its response, and that is taken (R75). -/
theorem runCommand_of_runToResponse {fuel : Nat} {op : Opcode} {arg : Word} {s u : State} {st : StatusBits} {d : Word}
    (hs : s.PHASE = .idle) (hrun : runToResponse fuel (acceptCommand op arg { s with ports := [] }) = some u)
    (hu : u.PHASE = .resp) (hst : u.RSP_STATUS = st) (hd : u.RSP_DATA = d) (hok : reservedStatus st = false) :
    runCommand fuel op arg s = some (takeResponse { u with ports := [] }, ⟨st, d⟩) := by
  subst hst hd
  have hoffer : step { s with ports := [offerCommand op arg] } = .next (acceptCommand op arg { s with ports := [] }) :=
    step_of_idle { s with ports := [offerCommand op arg] } ⟨rfl, rfl⟩ hs
  have htake : step { u with ports := [takeSample] } = .next (takeResponse { u with ports := [] }) := by
    rw [step_of_resp { u with ports := [takeSample] } ⟨rfl, rfl⟩ hu]
    simp [respStep, hok, portNow, takeSample, dropPort]
  simp [runCommand, hoffer, hrun, htake]

/-! ### SEED -/

/-- Under a quiet host the latched opcode `0x01` runs SEED on the latched argument (R79). -/
theorem step_quiet_of_seed {s : State} (hp : s.PHASE = .exec) (hop : s.OP_R = 0x01) :
    step { s with ports := [] } = execSeed s.ARG_R { s with ports := [] } :=
  step_quiet_of_exec (i := .seed s.ARG_R) hp (by rw [hop]; rfl)

/-- An expansion under way ends within one step for each output still due and one for the commit: SEED presents `OK, 0`,
with `SeedInit(ARG_R)` in `S` (R107). -/
theorem runToResponse_expanding {fuel : Nat} {s : State} (hp : s.PHASE = .exec) (hpos : s.pos = .expanding)
    (hi : ExpandingInv s) (hfuel : 5 ≤ s.K.toNat + fuel) :
    ∃ u, runToResponse fuel s = some u ∧ u.PHASE = .resp ∧ u.RSP_STATUS = 0b00 ∧ u.RSP_DATA = 0 ∧ u.cfg = s.cfg ∧
      u.S = seedInit s.cfg s.ARG_R := by
  induction fuel generalizing s with
  | zero =>
    obtain ⟨-, hK, -⟩ := hi
    omega
  | succ fuel ih =>
    have hq : ExpandingInv { s with ports := [] } := hi
    have hstep := step_quiet_of_seed hp hi.1
    have hexec : s.PHASE ≠ .resp := by simp [hp]
    by_cases hk : s.K < 4
    · rw [runToResponse_succ fuel hexec (hstep.trans (execSeed_iterate _ _ hpos hk))]
      have hK : (s.K + 1).toNat = s.K.toNat + 1 := toNat_add_one_of_lt_four hk
      exact ih hp hpos (hq.expandIteration hk) (by rw [expandIteration_K, hK]; omega)
    · rw [runToResponse_succ fuel hexec (hstep.trans (execSeed_commit _ _ hpos hk)),
        runToResponse_of_resp fuel (respond_PHASE _ _ _)]
      exact ⟨_, rfl, rfl, rfl, rfl, rfl, by simp [hi.buffer_eq hk, seedInit]⟩

/-- From its start SEED loads the accumulator and expands: it presents `OK, 0`, with `SeedInit(ARG_R)` in `S`. -/
theorem runToResponse_seed {fuel : Nat} {s : State} (hp : s.PHASE = .exec) (hop : s.OP_R = 0x01)
    (hpos : s.pos ≠ .expanding) (hfuel : 6 ≤ fuel) :
    ∃ u, runToResponse fuel s = some u ∧ u.PHASE = .resp ∧ u.RSP_STATUS = 0b00 ∧ u.RSP_DATA = 0 ∧ u.cfg = s.cfg ∧
      u.S = seedInit s.cfg s.ARG_R := by
  obtain ⟨fuel, rfl⟩ := Nat.exists_eq_add_of_le' (show 1 ≤ fuel by omega)
  have hload := (step_quiet_of_seed hp hop).trans (execSeed_start _ _ hpos)
  rw [runToResponse_succ fuel (by simp [hp]) hload]
  exact runToResponse_expanding hp rfl (expandingInv_expandStart hop) (by change 5 ≤ 0 + fuel; omega)

/-- SEED offered to an idle block ends: the response taken is `OK, 0`, the block is idle again, and `S` is
`SeedInit(seed)`, whatever it was (R107). -/
theorem runCommand_seed {fuel : Nat} {s : State} (seed : Word) (hs : s.PHASE = .idle) (hfuel : 6 ≤ fuel) :
    ∃ t, runCommand fuel 0x01 seed s = some (t, ⟨0b00, 0⟩) ∧ t.PHASE = .idle ∧ t.cfg = s.cfg ∧
      t.S = seedInit s.cfg seed := by
  obtain ⟨u, hrun, hp, hst, hd, hc, hS⟩ := runToResponse_seed
    (s := acceptCommand 0x01 seed { s with ports := [] }) rfl rfl (by simp) hfuel
  exact ⟨_, runCommand_of_runToResponse hs hrun hp hst hd rfl, takeResponse_PHASE _, hc, hS⟩

/-- Settles O57: what SEED leaves depends on the parameters and the seed alone (R109). -/
theorem seedIsIdempotent : Obligations.SeedIsIdempotent := by
  intro s seed hs
  obtain ⟨t, ht, hp, hc, hS⟩ := runCommand_seed seed hs le_rfl
  obtain ⟨u, hu, -, -, hS'⟩ := runCommand_seed seed hp le_rfl
  exact ⟨t, u, _, ht, hu, by rw [hS', hS, hc]⟩

end Sys2Proof.Machine
end

section
/-! PROOF. Between two blocks of a system no order exists (`20_memory.md` R59). -/

namespace Sys2Proof.Machine

/-- Everything a move of a system can do when it answers a next system: a turn that names no block passes, and one
that names a block is that block's own step. -/
theorem systemStep_eq_next_iff {l : List State} {k : Nat} {rest : List Nat} {y : System} :
    systemStep ⟨l, k :: rest⟩ = .next y ↔
      (l[k]? = none ∧ y = ⟨l, rest⟩) ∨ ∃ s t, l[k]? = some s ∧ step s = .next t ∧ y = ⟨l.set k t, rest⟩ := by
  cases hk : l[k]? with
  | none => simp [systemStep, hk, eq_comm]
  | some s => cases hs : step s <;> simp [systemStep, hk, hs, eq_comm]

/-- Settles O60: the first move leaves the second one's block as it was, and writes to different places of the list
commute. -/
theorem instanceStepsCommute : Obligations.InstanceStepsCommute := by
  intro l j k rest y z hjk hy hz
  rcases systemStep_eq_next_iff.mp hy with ⟨hj, rfl⟩ | ⟨s, t, hj, hst, rfl⟩
  · rcases systemStep_eq_next_iff.mp hz with ⟨hk, rfl⟩ | ⟨s', t', hk, hst', rfl⟩
    · exact ⟨_, systemStep_eq_next_iff.mpr (.inl ⟨hk, rfl⟩), systemStep_eq_next_iff.mpr (.inl ⟨hj, rfl⟩)⟩
    · have hj' : (l.set k t')[j]? = none := by rwa [List.getElem?_set_ne hjk.symm]
      exact ⟨_, systemStep_eq_next_iff.mpr (.inr ⟨s', t', hk, hst', rfl⟩),
        systemStep_eq_next_iff.mpr (.inl ⟨hj', rfl⟩)⟩
  · rcases systemStep_eq_next_iff.mp hz with ⟨hk, rfl⟩ | ⟨s', t', hk, hst', rfl⟩ <;>
      rw [List.getElem?_set_ne hjk] at hk
    · exact ⟨_, systemStep_eq_next_iff.mpr (.inl ⟨hk, rfl⟩),
        systemStep_eq_next_iff.mpr (.inr ⟨s, t, hj, hst, rfl⟩)⟩
    · have hj' : (l.set k t')[j]? = some s := by rwa [List.getElem?_set_ne hjk.symm]
      exact ⟨_, systemStep_eq_next_iff.mpr (.inr ⟨s', t', hk, hst', rfl⟩),
        systemStep_eq_next_iff.mpr (.inr ⟨s, t, hj', hst, by rw [List.set_comm _ _ hjk]⟩)⟩

end Sys2Proof.Machine
end

section
/-! PROOF. The decoder and the encoder (`30_encoding.md` R77 to R83): a command word is its two fields, the decoder
selects by the value of the opcode field alone, and it undoes the encoder. -/

namespace Sys2Proof.Machine

/-! ### The command word -/

/-- A command word is its opcode field before its argument field (R77). -/
theorem commandOf_commandOp_commandArg (c : Command) : commandOf (commandOp c) (commandArg c) = c :=
  (BitVec.extractLsb'_append_extractLsb'_eq_extractLsb' rfl).trans BitVec.extractLsb'_eq_self

/-- Decoding undoes encoding, with every operand. -/
theorem decode_encode (i : Instr) : decode (encode i) = .ok i := by
  obtain ⟨-, -, -, h⟩ : Laws.Encoding.Statement i := by
    cases i with
    | seed seed => exact Laws.Encoding.seed seed
    | draw64 => exact Laws.Encoding.draw64
    | draw32 => exact Laws.Encoding.draw32
    | sample bound => exact Laws.Encoding.sample bound
    | onein bound => exact Laws.Encoding.onein bound
  exact h

theorem encode_injective : Function.Injective encode := fun i j h =>
  Except.ok.inj ((decode_encode i).symm.trans ((congrArg decode h).trans (decode_encode j)))

/-! ### What a decoded command says of the fields -/

theorem opcodeOf_of_decodeFields {op : Opcode} {arg : Word} {i : Instr} (h : decodeFields op arg = .ok i) :
    opcodeOf i = op := by
  rcases decodeFields_ok h with ⟨rfl, rfl⟩ | ⟨rfl, rfl⟩ | ⟨rfl, rfl⟩ | ⟨rfl, rfl⟩ | ⟨rfl, rfl⟩ <;> rfl

theorem argumentOf_of_decodeFields {op : Opcode} {arg : Word} {i : Instr} (h : decodeFields op arg = .ok i)
    (hr : readsArgument i = true) : argumentOf i = arg := by
  rcases decodeFields_ok h with ⟨-, rfl⟩ | ⟨-, rfl⟩ | ⟨-, rfl⟩ | ⟨-, rfl⟩ | ⟨-, rfl⟩
  · rfl
  · cases hr
  · cases hr
  · rfl
  · rfl

/-- A word that decodes to a command that reads its argument is that command's word. -/
theorem encode_of_decode {c : Command} {i : Instr} (h : decode c = .ok i) (hr : readsArgument i = true) :
    encode i = c := by
  rw [encode, opcodeOf_of_decodeFields h, argumentOf_of_decodeFields h hr, commandOf_commandOp_commandArg]

/-- Settles O12: the decoder undoes the encoder, and a word is its two fields. -/
theorem decodeEncodeRoundTrip : Obligations.DecodeEncodeRoundTrip :=
  ⟨fun i _ => decode_encode i, fun _ _ h => ⟨(opcodeOf_of_decodeFields h).symm, encode_of_decode h⟩,
    fun _ _ h => encode_injective h⟩

/-! ### Which opcodes are assigned -/

/-- Outside 1..5 no assigned opcode is left, so the decoder names the opcode as illegal (R81). -/
theorem decodeFields_of_illegal {op : Opcode} (arg : Word) (h : op.toNat = 0 ∨ 6 ≤ op.toNat) :
    decodeFields op arg = .error (.illegalOpcode op) := by
  rcases decodeFields_cases op arg with ⟨rfl, -⟩ | ⟨rfl, -⟩ | ⟨rfl, -⟩ | ⟨rfl, -⟩ | ⟨rfl, -⟩ | ⟨-, -, -, -, -, hd⟩
  case inr.inr.inr.inr.inr => exact hd
  all_goals exact absurd h (by decide)

/-- An opcode the decoder rejects is none of 1..5, and is named as it is. -/
theorem decodeFields_eq_error_iff {op : Opcode} {arg : Word} {e : DecodeError} :
    decodeFields op arg = .error e ↔ e = .illegalOpcode op ∧ (op.toNat = 0 ∨ 6 ≤ op.toNat) := by
  refine ⟨fun h => ?_, fun ⟨he, hop⟩ => he ▸ decodeFields_of_illegal arg hop⟩
  rcases decodeFields_cases op arg with ⟨-, hd⟩ | ⟨-, hd⟩ | ⟨-, hd⟩ | ⟨-, hd⟩ | ⟨-, hd⟩ | ⟨h1, h2, h3, h4, h5, hd⟩ <;>
    cases hd.symm.trans h
  exact ⟨rfl, by bv_omega⟩

theorem exists_decodeFields_eq_ok_iff (op : Opcode) (arg : Word) :
    (∃ i, decodeFields op arg = .ok i) ↔ 1 ≤ op.toNat ∧ op.toNat ≤ 5 := by
  constructor
  · rintro ⟨i, hi⟩
    rcases decodeFields_ok hi with ⟨rfl, -⟩ | ⟨rfl, -⟩ | ⟨rfl, -⟩ | ⟨rfl, -⟩ | ⟨rfl, -⟩ <;> decide
  · intro hop
    cases hd : decodeFields op arg with
    | ok i => exact ⟨i, rfl⟩
    | error e =>
      obtain ⟨-, hill⟩ := decodeFields_eq_error_iff.mp hd
      omega

/-- The opcode selected, or rejected, does not name the argument (R80). -/
theorem map_opcodeOf_decodeFields (op : Opcode) (arg : Word) :
    (decodeFields op arg).map opcodeOf =
      if op.toNat = 0 ∨ 6 ≤ op.toNat then .error (.illegalOpcode op) else .ok op := by
  cases hd : decodeFields op arg with
  | ok i =>
    have hop := (exists_decodeFields_eq_ok_iff op arg).mp ⟨i, hd⟩
    rw [if_neg (by omega), ← opcodeOf_of_decodeFields hd]
    rfl
  | error e =>
    obtain ⟨rfl, hill⟩ := decodeFields_eq_error_iff.mp hd
    rw [if_pos hill]
    rfl

/-- Settles O13. -/
theorem decoderSelectsByOpcodeAlone : Obligations.DecoderSelectsByOpcodeAlone :=
  ⟨exists_decodeFields_eq_ok_iff, fun _ _ _ h => opcodeOf_of_decodeFields h,
    fun _ _ _ h => (decodeFields_eq_error_iff.mp h).left,
    fun op a b => (map_opcodeOf_decodeFields op a).trans (map_opcodeOf_decodeFields op b).symm⟩

/-- Settles O15: each word holds the opcode and argument of its command (R77, R79). -/
theorem writtenOutWordsDecode : Obligations.WrittenOutWordsDecode :=
  ⟨decode_encode (.seed 1337), decode_encode .draw64, by decide,
    decode_encode (.sample 0x8000000000000001), decode_encode (.onein 100),
    decodeFields_of_illegal (op := 0x7F) 0x64 (.inr (by decide))⟩

/-! ### One step in `EXEC` -/

theorem execStep_of_ok {s : State} {i : Instr} (h : decodeFields s.OP_R s.ARG_R = .ok i) : execStep s = exec i s := by
  simp [execStep, h]

theorem execStep_of_error {s : State} {e : DecodeError} (h : decodeFields s.OP_R s.ARG_R = .error e) :
    execStep s = .next (illegalOutcome s) := by
  simp [execStep, h]

/-- Of the values below 256, 0 and the 250 values from 6 on lie outside 1..5. -/
theorem count_unassigned : Nat.count (fun n => n = 0 ∨ 6 ≤ n) 256 = 251 := by
  have hhigh : Nat.count (fun k => 6 + k = 0 ∨ 6 ≤ 6 + k) 250 = 250 :=
    Nat.count_iff_forall.mpr fun k _ => .inr (by omega)
  calc Nat.count (fun n => n = 0 ∨ 6 ≤ n) (6 + 250)
    _ = Nat.count (fun n => n = 0 ∨ 6 ≤ n) 6 + 250 := by rw [Nat.count_add, hhigh]
    _ = 251 := rfl

/-- The decoder rejects 251 opcode values (R81). -/
theorem length_rejected_opcodes :
    ((List.range 256).filter fun n => decodeFields (BitVec.ofNat 8 n) 0 = .error (.illegalOpcode (BitVec.ofNat 8 n))).length
      = 251 := by
  have h : ∀ n ∈ List.range 256,
      decide (decodeFields (BitVec.ofNat 8 n) 0 = .error (.illegalOpcode (BitVec.ofNat 8 n))) =
        decide (n = 0 ∨ 6 ≤ n) := by
    intro n hn
    have hn8 : (BitVec.ofNat 8 n).toNat = n := BitVec.toNat_ofNat n 8 ▸ Nat.mod_eq_of_lt (List.mem_range.mp hn)
    simp only [decodeFields_eq_error_iff, hn8, true_and]
  rw [List.filter_congr h, ← List.countP_eq_length_filter]
  exact count_unassigned

/-- Settles O14: the decoder rejects the opcode, and the ILLEGAL outcome is a response (R202). -/
theorem illegalOpcodesRespondIllegal : Obligations.IllegalOpcodesRespondIllegal := by
  refine ⟨fun s ho hp hop => ?_, length_rejected_opcodes⟩
  rw [step_of_exec s ho hp, execStep_of_error (s := dropPort s) (decodeFields_of_illegal _ hop)]
  exact responds_respond .illegal 0 (dropPort s) (dropPort s) rfl rfl

/-! ### A placed command word -/

theorem decodeTableWord_eq_some {n w : Nat} {i : Instr} (h : decodeTableWord n w = some i) :
    decode (commandOfTable n w) = .ok i := by
  unfold decodeTableWord at h
  split at h
  · cases h
  · split at h
    next j hd => exact hd.trans (congrArg _ (Option.some.inj h))
    · cases h

/-- The argument of a table word is its low 64 bits. -/
theorem commandArg_commandOfTable (n w : Nat) : commandArg (commandOfTable n w) = BitVec.ofNat 64 (w % 2 ^ n) := by
  rw [commandArg, commandOfTable, ← BitVec.setWidth_eq_extractLsb' (by decide), BitVec.setWidth_ofNat_of_le (by decide)]

/-- Settles O16. -/
theorem stepRunsDecodedCommand : Obligations.StepRunsDecodedCommand := by
  refine ⟨fun s i ho hp hd => ?_, fun s e ho hp hd => ?_, fun s n w i h => ?_⟩
  · rw [step_of_exec s ho hp]
    exact execStep_of_ok (s := dropPort s) hd
  · rw [step_of_exec s ho hp]
    exact execStep_of_error (s := dropPort s) hd
  · have hd : decode (commandOfTable n w) = .ok i := decodeTableWord_eq_some h
    rw [step_of_exec (s.withFetchWord n w) ⟨rfl, rfl⟩ rfl, opcodeOf_of_decodeFields hd,
      ← commandArg_commandOfTable n w]
    exact execStep_of_ok (s := dropPort (s.withFetchWord n w)) hd

/-- Settles O17: the commands carry no argument, and the register is released when they respond. -/
theorem drawsIgnoreArgument : Obligations.DrawsIgnoreArgument := by
  intro s a b ho hp hop
  obtain ⟨i, hd, hi⟩ : ∃ i, (∀ arg, decodeFields s.OP_R arg = .ok i) ∧
      exec i (dropPort { s with ARG_R := a }) = exec i (dropPort { s with ARG_R := b }) := by
    rcases hop with hop | hop
    · exact ⟨.draw64, fun arg => by rw [hop]; rfl, rfl⟩
    · exact ⟨.draw32, fun arg => by rw [hop]; rfl, rfl⟩
  rw [step_of_exec { s with ARG_R := a } ho hp, step_of_exec { s with ARG_R := b } ho hp]
  exact (execStep_of_ok (hd a)).trans (hi.trans (execStep_of_ok (hd b)).symm)

end Sys2Proof.Machine
end

section
/-! PROOF. The handshake (`30_encoding.md` R72 to R75): when a command is accepted, when a response is taken, and what
the ports show meanwhile. -/

namespace Sys2Proof.Machine

/-! ### Acceptance -/

/-- An acceptance on the ports is one in `IDLE`, on an edge with `rst = 0`. -/
theorem eventOf_eq_accepted {s : State} {op : Opcode} {arg : Word} (h : eventOf s = some (.accepted op arg)) :
    (portNow s).rst = false ∧ s.PHASE = .idle := by
  by_cases hr : (portNow s).rst = true
  · simp [eventOf_of_rst hr] at h
  · rw [Bool.not_eq_true] at hr
    by_cases hc : (portNow s).contested = true
    · simp [eventOf_of_contested hr hc] at h
    · have ho : ordinary s := ⟨hr, by simpa using hc⟩
      cases hp : s.PHASE with
      | idle => exact ⟨hr, rfl⟩
      | exec => simp [eventOf_of_exec ho hp] at h
      | resp =>
        rw [eventOf_of_resp ho hp] at h
        split at h <;> simp at h

/-- A command in flight that still executes after a step did so before it, and keeps its opcode and argument. -/
theorem Move.command_kept {s t : State} (m : Move s t) (hs : s.PHASE ≠ .idle) (ht : t.PHASE = .exec) :
    s.PHASE = .exec ∧ t.OP_R = s.OP_R ∧ t.ARG_R = s.ARG_R := by
  cases m with
  | load _ hp | iterate _ hp | setup _ hp | reject _ hp => exact ⟨hp, by simp⟩
  | accept _ hp => exact absurd hp hs
  | stay _ hp => exact absurd ht hp
  | reset | take | answer | answerDraw | commit => simp at ht

/-- Settles O6. -/
theorem commandReadyExactlyWhenIdle : Obligations.CommandReadyExactlyWhenIdle := by
  refine ⟨fun s r => by simp [cmdReady], fun s op arg h => ?_, fun s t h => (move_of_step h).command_kept⟩
  obtain ⟨hr, hp⟩ := eventOf_eq_accepted h
  simp [cmdReady, hr, hp]

/-! ### The command ports -/

/-- An edge that does not accept reads `rst`, `contested` and `rsp_ready` of its sample, and no more. -/
theorem step_congr {s t : State} (hd : dropPort s = dropPort t) (hr : (portNow s).rst = (portNow t).rst)
    (hc : (portNow s).contested = (portNow t).contested) (hrdy : (portNow s).rspReady = (portNow t).rspReady)
    (hs : (portNow s).rst = false → s.PHASE = .idle → (portNow s).cmdValid = false)
    (ht : (portNow t).rst = false → t.PHASE = .idle → (portNow t).cmdValid = false) : step s = step t := by
  have hp : s.PHASE = t.PHASE := by simpa using congrArg State.PHASE hd
  by_cases hrst : (portNow s).rst = true
  · rw [step_of_rst s hrst, step_of_rst t (hr ▸ hrst), hd]
  · rw [Bool.not_eq_true] at hrst
    by_cases hcon : (portNow s).contested = true
    · rw [step_of_contested s hrst hcon, step_of_contested t (hr ▸ hrst) (hc ▸ hcon)]
    · have ho : ordinary s := ⟨hrst, by simpa using hcon⟩
      have ho' : ordinary t := ⟨hr ▸ ho.1, hc ▸ ho.2⟩
      cases hps : s.PHASE with
      | idle =>
        have hpt : t.PHASE = .idle := hp ▸ hps
        simp [step_of_idle s ho hps, step_of_idle t ho' hpt, idleStep, hs ho.1 hps, ht ho'.1 hpt, hd]
      | exec => rw [step_of_exec s ho hps, step_of_exec t ho' (hp ▸ hps), hd]
      | resp => rw [step_of_resp s ho hps, step_of_resp t ho' (hp ▸ hps), hd, respStep, respStep, hrdy]

/-- Settles O5. -/
theorem acceptanceLatchesCommand : Obligations.AcceptanceLatchesCommand := by
  refine ⟨fun s ho hp hv => ⟨by simp [cmdReady, hp], ?_⟩, fun s p rest op arg hports hno => ?_⟩
  · rw [step_of_idle s ho hp, idleStep, if_pos hv]
    rfl
  · have hnow : portNow s = p := by simp [portNow, hports]
    have hnv : p.rst = false → s.PHASE = .idle → p.cmdValid = false := fun hr hp => by simpa [hr, hp] using hno
    refine step_congr ?_ ?_ ?_ ?_ hnv (hnow ▸ hnv)
    · simp [dropPort, hports]
    all_goals rw [hnow]; rfl

/-! ### The response -/

/-- No status that a command responds with is reserved (R203). -/
@[simp] theorem reservedStatus_statusBits (st : Status) : reservedStatus (statusBits st) = false := by
  cases st <;> rfl

theorem step_of_resp_taken {s : State} (ho : ordinary s) (hp : s.PHASE = .resp)
    (hst : reservedStatus s.RSP_STATUS = false) (hr : (portNow s).rspReady = true) :
    step s = .next (takeResponse (dropPort s)) := by
  simp [step_of_resp s ho hp, respStep, hst, hr]

theorem step_of_resp_held {s : State} (ho : ordinary s) (hp : s.PHASE = .resp)
    (hst : reservedStatus s.RSP_STATUS = false) (hr : (portNow s).rspReady = false) :
    step s = .next (dropPort s) := by
  simp [step_of_resp s ho hp, respStep, hst, hr]

/-- Settles O8: the frame of the transfer, and of a step that waits. -/
theorem responseTransfer : Obligations.ResponseTransfer := by
  intro s ho hp hst
  exact ⟨fun hr => ⟨_, step_of_resp_taken ho hp hst hr, rfl, rfl, rfl, rfl, rfl, rfl, rfl, rfl, rfl, rfl, rfl, rfl⟩,
    fun hr => step_of_resp_held ho hp hst hr⟩

/-- Settles O7: a step in `RESP` with `rsp_ready = 0` consumes its sample alone. -/
theorem responseIsPresentedAndHeld : Obligations.ResponseIsPresentedAndHeld := by
  refine ⟨fun st d s => by simp [rspPort, rspValid], fun s => by simp [rspValid], fun s t ho hp hr h => ?_⟩
  rw [step_of_resp s ho hp] at h
  rcases respStep_cases (portNow s) (dropPort s) with ⟨-, he⟩ | ⟨-, hrdy, -⟩ | ⟨-, -, he⟩
  · cases he.symm.trans h
  · simp [hr] at hrdy
  · cases he.symm.trans h
    rfl

end Sys2Proof.Machine
end

section
/-! PROOF. The assembler (`30_encoding.md` R86, R87): a literal operand is the argument, or an error past it. -/

namespace Sys2Proof.Machine

theorem map_argumentLiteral_of_lt {n : Nat} (f : Word → Instr) (h : n < 2 ^ 64) :
    (argumentLiteral n).map f = .ok (f (BitVec.ofNat 64 n)) := by
  rw [argumentLiteral, if_pos h, Except.map]

theorem map_argumentLiteral_of_le {n : Nat} (f : Word → Instr) (h : 2 ^ 64 ≤ n) :
    (argumentLiteral n).map f = .error .operandOutOfRange := by
  rw [argumentLiteral, if_neg (Nat.not_lt.mpr h), Except.map]

theorem assembleWord_of_ok {l : AsmLine} {i : Instr} (h : assembleLine l = .ok i) : assembleWord l = .ok (encode i) := by
  rw [assembleWord, h]
  rfl

theorem assembleWord_of_error {l : AsmLine} {e : AsmError} (h : assembleLine l = .error e) :
    assembleWord l = .error e := by
  rw [assembleWord, h]
  rfl

/-- Settles O18: the word of a command is its opcode before its argument (R77). -/
theorem assemblerOperandRules : Obligations.AssemblerOperandRules := by
  refine ⟨fun n hn => ⟨?_, ?_, ?_⟩, fun n hn => ?_, ?_, rfl, rfl, fun n => ?_⟩
  · exact assembleWord_of_ok (i := .seed (BitVec.ofNat 64 n)) (map_argumentLiteral_of_lt .seed hn)
  · exact assembleWord_of_ok (i := .sample (BitVec.ofNat 64 n)) (map_argumentLiteral_of_lt .sample hn)
  · exact assembleWord_of_ok (i := .onein (BitVec.ofNat 64 n)) (map_argumentLiteral_of_lt .onein hn)
  · have h : ∀ op ∈ [AsmOp.seed, .sample, .onein], assembleLine ⟨op, some n⟩ = .error .operandOutOfRange := by
      simp [assembleLine, map_argumentLiteral_of_le _ hn]
    exact fun op hop => assembleWord_of_error (h op hop)
  · have h : ∀ op ∈ [AsmOp.seed, .sample, .onein], assembleLine ⟨op, none⟩ = .error .missingOperand := by
      simp [assembleLine]
    exact fun op hop => assembleWord_of_error (h op hop)
  · have h : ∀ op ∈ [AsmOp.draw64, .draw32], assembleLine ⟨op, some n⟩ = .error .extraOperand := by
      simp [assembleLine]
    exact fun op hop => assembleWord_of_error (h op hop)

/-- Settles O19: `ONE_IN_<N>` takes its literal as ONEIN does. -/
theorem oneInPseudoExpandsToOnein : Obligations.OneInPseudoExpandsToOnein := by
  refine ⟨fun n hn => ?_, fun n hn => ?_, by decide, by decide⟩
  · have h : assembleLine ⟨.oneIn n, none⟩ = .ok (.onein (BitVec.ofNat 64 n)) := map_argumentLiteral_of_lt .onein hn
    exact ⟨h, (assembleWord_of_ok h :)⟩
  · exact assembleWord_of_error (map_argumentLiteral_of_le .onein hn)

end Sys2Proof.Machine
end

section
/-! PROOF. A command offered at the ports of an idle block (`70_reset_and_hazards.md` R240): SEED by its own run, and
each other command that does not loop by its one internal step. -/

namespace Sys2Proof.Machine

/-! ### The bounds that do not loop -/

theorem ne_zero_of_isPow2 {b : Word} (h : isPow2 b = true) : b ≠ 0 := by
  rintro rfl
  cases h

/-- A bound off the general path is 0 or a power of two (R168). -/
theorem eq_zero_or_isPow2_of_not_generalBound {b : Word} (h : generalBound b = false) : b = 0 ∨ isPow2 b = true := by
  simpa [generalBound, or_iff_not_imp_left] using h

theorem sampleDispatch_pow2 (finish : Word → Word) {b : Word} (h : isPow2 b = true) (s : State) :
    sampleDispatch finish b s = respond .ok (finish (maskDraw b (genOut s.S))) (nextState s) := by
  rw [sampleDispatch, if_neg (ne_zero_of_isPow2 h), if_pos h, nextOutput]

/-! ### Each command's run -/

/-- The command, offered to the idle block `s`, ends within `fuel` internal steps with its response `r` taken, the block
idle again, and `q` in `S`. -/
def CompletesWith (fuel : Nat) (op : Opcode) (arg : Word) (s : State) (r : Response) (q : Quad) : Prop :=
  ∃ t, runCommand fuel op arg s = some (t, r) ∧ t.PHASE = .idle ∧ t.cfg = s.cfg ∧ t.S = q

section
variable {fuel : Nat} {arg : Word} {s : State} (hs : s.PHASE = .idle) (hfuel : 1 ≤ fuel)
include hs hfuel

/-- A command whose first internal step responds is complete with that response. -/
theorem completesWith_of_execStep {op : Opcode} {st : Status} {d : Word} {u : State} (hc : u.cfg = s.cfg)
    (he : execStep (acceptCommand op arg { s with ports := [] }) = .next (respond st d u)) :
    CompletesWith fuel op arg s ⟨statusBits st, d⟩ u.S := by
  obtain ⟨fuel, rfl⟩ := Nat.exists_eq_add_of_le' hfuel
  have hstep : step (acceptCommand op arg { s with ports := [] }) = .next (respond st d u) :=
    (step_of_exec _ ⟨rfl, rfl⟩ rfl).trans he
  have hrun : runToResponse (fuel + 1) (acceptCommand op arg { s with ports := [] }) = some (respond st d u) :=
    (runToResponse_succ fuel (by simp) hstep).trans (runToResponse_of_resp fuel rfl)
  exact ⟨_, runCommand_of_runToResponse hs hrun rfl rfl rfl (reservedStatus_statusBits st), rfl, hc, rfl⟩

/-- An answer with no draw leaves `S` as it was. -/
theorem completesWith_of_answer {op : Opcode} {i : Instr} {d : Word} (hd : decodeFields op arg = .ok i)
    (he : ∀ u : State, u.pos = .start → exec i u = .next (respond .ok d u)) :
    CompletesWith fuel op arg s ⟨0b00, d⟩ s.S :=
  completesWith_of_execStep hs hfuel (st := .ok) (u := acceptCommand op arg { s with ports := [] }) rfl
    ((execStep_of_ok hd).trans (he _ rfl))

/-- An answer after one draw, of which it is `f`, leaves `S` advanced. -/
theorem completesWith_of_draw {op : Opcode} {i : Instr} (f : Word → Word) (hd : decodeFields op arg = .ok i)
    (he : ∀ u : State, u.pos = .start → exec i u = .next (respond .ok (f (genOut u.S)) (nextState u))) :
    CompletesWith fuel op arg s ⟨0b00, f (genOut s.S)⟩ (advance s.cfg s.S) :=
  completesWith_of_execStep hs hfuel (st := .ok) (u := nextState (acceptCommand op arg { s with ports := [] })) rfl
    ((execStep_of_ok hd).trans (he _ rfl))

theorem completesWith_illegal {op : Opcode} (hop : op.toNat = 0 ∨ 6 ≤ op.toNat) :
    CompletesWith fuel op arg s ⟨0b01, 0⟩ s.S :=
  completesWith_of_execStep hs hfuel (st := .illegal) (u := acceptCommand op arg { s with ports := [] }) rfl
    (execStep_of_error (decodeFields_of_illegal arg hop))

theorem completesWith_draw64 : CompletesWith fuel 0x02 arg s ⟨0b00, genOut s.S⟩ (advance s.cfg s.S) :=
  completesWith_of_draw hs hfuel (i := .draw64) id rfl fun _ _ => rfl

theorem completesWith_draw32 : CompletesWith fuel 0x03 arg s ⟨0b00, upper32 (genOut s.S)⟩ (advance s.cfg s.S) :=
  completesWith_of_draw hs hfuel (i := .draw32) upper32 rfl fun _ _ => rfl

/-- Bound 0 makes no draw (R162). -/
theorem completesWith_sample_zero : CompletesWith fuel 0x04 0 s ⟨0b00, 0⟩ s.S :=
  completesWith_of_answer hs hfuel (i := .sample 0) rfl fun u hu => execSample_dispatch 0 u (by simp [hu])

/-- A power of two masks one draw (R163). -/
theorem completesWith_sample_pow2 (hb : isPow2 arg = true) :
    CompletesWith fuel 0x04 arg s ⟨0b00, maskDraw arg (genOut s.S)⟩ (advance s.cfg s.S) :=
  completesWith_of_draw hs hfuel (i := .sample arg) (maskDraw arg) rfl fun u hu =>
    (execSample_dispatch arg u (by simp [hu])).trans (congrArg _ (sampleDispatch_pow2 id hb u))

/-- Bounds 0 and 1 make no draw (R173). -/
theorem completesWith_onein_degenerate (hb : arg ≤ 1) : CompletesWith fuel 0x05 arg s ⟨0b00, 1⟩ s.S :=
  completesWith_of_answer hs hfuel (i := .onein arg) rfl fun u hu => execOnein_degenerate arg u (by simp [hu]) hb

/-- A power of two from 2 on tests the masked draw (R173). -/
theorem completesWith_onein_pow2 (h1 : ¬ arg ≤ 1) (hb : isPow2 arg = true) :
    CompletesWith fuel 0x05 arg s ⟨0b00, if genOut s.S &&& (arg - 1) = 0 then 1 else 0⟩ (advance s.cfg s.S) :=
  completesWith_of_draw hs hfuel (i := .onein arg) (oneInData ∘ maskDraw arg) rfl fun u hu =>
    (execOnein_dispatch arg u (by simp [hu]) h1).trans (congrArg _ (sampleDispatch_pow2 oneInData hb u))

end

/-- Settles O58, by the opcode, and for SAMPLE and ONEIN by the bound. -/
theorem commandsCompleteThroughThePorts : Obligations.CommandsCompleteThroughThePorts := by
  intro s op arg fuel hs hfuel6 hsample honein
  have hfuel : 1 ≤ fuel := by omega
  rcases decodeFields_cases op arg with ⟨rfl, -⟩ | ⟨rfl, -⟩ | ⟨rfl, -⟩ | ⟨rfl, -⟩ | ⟨rfl, -⟩ | ⟨-, -, -, -, -, hd⟩
  · obtain ⟨t, hrun, hp, hc, hS⟩ := runCommand_seed arg hs hfuel6
    exact ⟨t, _, hrun, hp, hc, by simp [hS]⟩
  · obtain ⟨t, hrun, hp, hc, hS⟩ := completesWith_draw64 hs hfuel (arg := arg)
    exact ⟨t, _, hrun, hp, hc, by simp [hS]⟩
  · obtain ⟨t, hrun, hp, hc, hS⟩ := completesWith_draw32 hs hfuel (arg := arg)
    exact ⟨t, _, hrun, hp, hc, by simp [hS]⟩
  · rcases eq_zero_or_isPow2_of_not_generalBound (hsample rfl) with rfl | hb
    · obtain ⟨t, hrun, hp, hc, hS⟩ := completesWith_sample_zero hs hfuel
      exact ⟨t, _, hrun, hp, hc, by simp [hS, isPow2]⟩
    · obtain ⟨t, hrun, hp, hc, hS⟩ := completesWith_sample_pow2 hs hfuel hb
      have hne : arg ≠ 0#64 := ne_zero_of_isPow2 hb
      exact ⟨t, _, hrun, hp, hc, by simp [hS, hne, maskDraw]⟩
  · by_cases h1 : arg ≤ 1
    · have hle : arg.toNat ≤ 1 := h1
      have hlt : ¬ 2 ≤ arg.toNat := by omega
      obtain ⟨t, hrun, hp, hc, hS⟩ := completesWith_onein_degenerate hs hfuel h1
      exact ⟨t, _, hrun, hp, hc, by simp [hS, hlt]⟩
    · have hle : ¬ arg.toNat ≤ 1 := h1
      have hne : arg ≠ 0 := by
        rintro rfl
        exact h1 (by decide)
      have hb : isPow2 arg = true := (eq_zero_or_isPow2_of_not_generalBound (honein rfl)).resolve_left hne
      obtain ⟨t, hrun, hp, hc, hS⟩ := completesWith_onein_pow2 hs hfuel h1 hb
      exact ⟨t, _, hrun, hp, hc, by simp [hS, hle]⟩
  · obtain ⟨-, hop⟩ := decodeFields_eq_error_iff.mp hd
    obtain ⟨t, hrun, hp, hc, hS⟩ := completesWith_illegal hs hfuel (arg := arg) hop
    refine ⟨t, _, hrun, hp, hc, ?_, ?_, ?_, ?_, ?_, ?_, ?_, fun _ => ⟨rfl, hS⟩⟩ <;>
      exact fun h => absurd hop (h ▸ by decide)

end Sys2Proof.Machine
end

section
/-! PROOF. The seed expander as a function (`40_seed_expander.md` R100 to R105): `Mix` is a composition of bijections, so
at most one output of an expansion is 0 and the zero guard never fires. -/

namespace Sys2Proof.Machine

/-! ### Admissible constants of the expander -/

theorem oddConstants_iff (p : Params) : p.oddConstants = true ↔
    p.expGamma.toNat % 2 = 1 ∧ p.expM1.toNat % 2 = 1 ∧ p.expM2.toNat % 2 = 1 := by
  simp [Params.oddConstants, oddWord, and_assoc]

theorem expanderShifts_iff (p : Params) : p.expanderShifts = true ↔
    (1 ≤ p.expSh1 ∧ p.expSh1 ≤ 63) ∧ (1 ≤ p.expSh2 ∧ p.expSh2 ≤ 63) ∧ 1 ≤ p.expSh3 ∧ p.expSh3 ≤ 63 := by
  simp [Params.expanderShifts, shiftAmount, and_assoc]

/-! ### `Mix` is a bijection (R105 step 1) -/

/-- A right shift by a positive amount fixes only 0, since it makes every other word smaller. -/
theorem eq_zero_of_ushiftRight_eq_self {w : Word} {k : Nat} (hk : 1 ≤ k) (h : w >>> k = w) : w = 0 := by
  by_contra hw
  have hpos : 0 < w.toNat := by bv_omega
  have hlt : w.toNat / 2 ^ k < w.toNat := Nat.div_lt_self hpos (Nat.one_lt_two_pow (by omega))
  have hfix : w.toNat / 2 ^ k = w.toNat := by
    rw [← Nat.shiftRight_eq_div_pow, ← BitVec.toNat_ushiftRight, h]
  omega

/-- An xor-shift is linear over xor. -/
theorem xorShift_xor (a b : Word) (k : Nat) : xorShift (a ^^^ b) k = xorShift a k ^^^ xorShift b k := by
  simp only [xorShift, BitVec.ushiftRight_xor_distrib]
  ac_rfl

/-- The xor of two words with the same image is a word that the shift fixes. -/
theorem xorShift_injective {k : Nat} (hk : 1 ≤ k) : Function.Injective (xorShift · k) := by
  intro a b h
  have hker : xorShift (a ^^^ b) k = 0 := (xorShift_xor a b k).trans (BitVec.xor_eq_zero_iff.mpr h)
  have hfix : a ^^^ b = (a ^^^ b) >>> k := BitVec.xor_eq_zero_iff.mp hker
  exact BitVec.xor_eq_zero_iff.mp (eq_zero_of_ushiftRight_eq_self hk hfix.symm)

/-- An odd multiplier is coprime to 2^64. -/
theorem mul_odd_injective {m : Word} (hm : m.toNat % 2 = 1) : Function.Injective (· * m) := by
  intro a b h
  have hmod : a.toNat * m.toNat ≡ b.toNat * m.toNat [MOD 2 ^ 64] := by
    simpa [Nat.ModEq] using congrArg BitVec.toNat h
  have hcop : Nat.gcd (2 ^ 64) m.toNat = 1 :=
    Nat.Coprime.pow_left 64 (Nat.coprime_two_left.mpr (Nat.odd_iff.mpr hm))
  exact BitVec.eq_of_toNat_eq ((hmod.cancel_right_of_coprime hcop).eq_of_lt_of_lt a.isLt b.isLt)

theorem mix_injective {p : Params} (hp : p.wf = true) : Function.Injective (mix p) := by
  obtain ⟨hodd, hshift, -, -⟩ := (params_wf_iff p).mp hp
  obtain ⟨-, hM1, hM2⟩ := (oddConstants_iff p).mp hodd
  obtain ⟨⟨h1, -⟩, ⟨h2, -⟩, h3, -⟩ := (expanderShifts_iff p).mp hshift
  have hrounds : Function.Injective fun z => xorShift (xorShift z p.expSh1 * p.expM1) p.expSh2 * p.expM2 :=
    (mul_odd_injective hM2).comp ((xorShift_injective h2).comp
      ((mul_odd_injective hM1).comp (xorShift_injective h1)))
  intro a b h
  unfold mix at h
  split at h
  case isTrue => exact hrounds (xorShift_injective h3 h)
  case isFalse => exact hrounds h

/-- Settles O20: on finitely many words an injection is a bijection. -/
theorem mixIsBijective : Obligations.MixIsBijective :=
  fun _ hp => Finite.injective_iff_bijective.mp (mix_injective hp)

/-- Settles O21. -/
theorem expandClosedForm : Obligations.ExpandClosedForm :=
  fun p seed _ hk => getQuad_expand p seed hk

/-! ### The zero guard (R104) -/

@[simp] theorem zeroGuard_zero (p : Params) : zeroGuard p Quad.zero = p.fallback := by
  simp [zeroGuard, Quad.zero]

theorem zeroGuard_of_ne_zero (p : Params) {e : Quad} (he : e ≠ Quad.zero) : zeroGuard p e = e := by
  refine if_neg fun ⟨h0, h1, h2, h3⟩ => he ?_
  cases e
  simp_all [Quad.zero]

/-- Settles O22, by whether the expansion is all zero. -/
theorem zeroGuardSubstitutesFallback : Obligations.ZeroGuardSubstitutesFallback := by
  intro p seed
  refine ⟨fun h => by simp [seedInit, h], zeroGuard_of_ne_zero p, fun hf => ?_⟩
  by_cases h : expand p seed = Quad.zero
  · simpa [seedInit, h] using hf
  · rwa [seedInit, zeroGuard_of_ne_zero p h]

/-! ### The guard never fires (R105 steps 2 and 3) -/

/-- The four words an expansion mixes are pairwise distinct. -/
theorem expandArgument_inj {p : Params} {seed : Word} {j k : Nat} (hp : p.wf = true) (hj : j < 4) (hk : k < 4)
    (h : seed + BitVec.ofNat 64 (j + 1) * p.expGamma = seed + BitVec.ofNat 64 (k + 1) * p.expGamma) : j = k := by
  obtain ⟨hodd, -⟩ := (params_wf_iff p).mp hp
  obtain ⟨hgamma, -⟩ := (oddConstants_iff p).mp hodd
  have hcount : BitVec.ofNat 64 (j + 1) = BitVec.ofNat 64 (k + 1) :=
    mul_odd_injective hgamma (BitVec.add_right_inj seed |>.mp h)
  bv_omega

/-- `Mix` takes distinct words to distinct words, so one output at most is 0. -/
theorem expand_zero_output_unique {p : Params} {seed : Word} {j k : Nat} (hp : p.wf = true) (hj : j < 4) (hk : k < 4)
    (h0 : getQuad (expand p seed) j = 0) (h0' : getQuad (expand p seed) k = 0) : j = k := by
  rw [getQuad_expand p seed hj] at h0
  rw [getQuad_expand p seed hk] at h0'
  exact expandArgument_inj hp hj hk (mix_injective hp (h0.trans h0'.symm))

theorem expand_ne_zero {p : Params} (seed : Word) (hp : p.wf = true) : expand p seed ≠ Quad.zero := by
  intro h
  have h01 : 0 = 1 := expand_zero_output_unique (seed := seed) hp (by omega) (by omega) (by rw [h]; rfl) (by rw [h]; rfl)
  omega

theorem seedInit_eq_expand {p : Params} (seed : Word) (hp : p.wf = true) : seedInit p seed = expand p seed :=
  zeroGuard_of_ne_zero p (expand_ne_zero seed hp)

/-- No expansion is all zero, so `FALLBACK_STATE` is never read; the rest of `SeedInit` does not name it. -/
theorem seedInit_fallback_irrelevant {p : Params} (q : Quad) (seed : Word) (hp : p.wf = true) :
    seedInit { p with fallback := q } seed = seedInit p seed :=
  calc zeroGuard { p with fallback := q } (expand p seed)
    _ = expand p seed := zeroGuard_of_ne_zero _ (expand_ne_zero seed hp)
    _ = seedInit p seed := (seedInit_eq_expand seed hp).symm

/-- Settles O23: R105's three steps. -/
theorem zeroGuardNeverFires : Obligations.ZeroGuardNeverFires := fun p seed hp =>
  ⟨(mixIsBijective p hp).existsUnique 0, fun _ _ => expandArgument_inj hp, fun _ _ => expand_zero_output_unique hp,
    expand_ne_zero seed hp, seedInit_eq_expand seed hp, fun q => seedInit_fallback_irrelevant q seed hp⟩

end Sys2Proof.Machine
end

section
/-! PROOF. The internal steps of SEED (`40_seed_expander.md` R102, R107, R108): each step and its frame, then the run of
six steps from the start. -/

namespace Sys2Proof.Machine

/-! ### One internal step -/

/-- The last step responds `OK, 0` and writes the guarded buffer to `S`. -/
theorem responds_exec_seed_commit (seed : Word) {s : State} (hpos : s.pos = .expanding) (hk : ¬ s.K < 4) :
    Responds (exec (.seed seed) s) s 0b00 0 (zeroGuard s.cfg s.E) := by
  rw [exec, execSeed_commit seed s hpos hk]
  exact responds_respond .ok 0 (expandCommit s) s rfl rfl

/-- Settles O24: one law per position of SEED. -/
theorem seedInternalSteps : Obligations.SeedInternalSteps := fun s seed =>
  ⟨execSeed_start seed s, execSeed_iterate seed s,
    fun hpos hk => responds_exec_seed_commit seed hpos (Nat.not_lt.mpr hk)⟩

/-! ### The run of SEED -/

theorem execTimes_succ {i : Instr} {s t : State} (n : Nat) (h : exec i s = .next t) :
    execTimes (n + 1) i s = execTimes n i t := by
  simp [execTimes, h]

theorem toNat_K_expandIteration {s : State} (hk : s.K < 4) : (expandIteration s).K.toNat = s.K.toNat + 1 :=
  toNat_add_one_of_lt_four hk

/-- While outputs are still due no step writes `S` or leaves `EXEC` (R108). -/
theorem execTimes_seed_keeps_S (seed : Word) {n : Nat} {s : State} (hpos : s.pos = .expanding)
    (hn : s.K.toNat + n ≤ 4) : ∃ u, execTimes n (.seed seed) s = .next u ∧ u.S = s.S ∧ u.PHASE = s.PHASE := by
  induction n generalizing s with
  | zero => exact ⟨s, rfl, rfl, rfl⟩
  | succ n ih =>
    have hk : s.K < 4 := BitVec.lt_def.mpr (show s.K.toNat < 4 by omega)
    rw [execTimes_succ (i := .seed seed) n (execSeed_iterate seed s hpos hk)]
    exact ih (s := expandIteration s) hpos (by rw [toNat_K_expandIteration hk]; omega)

/-- One step for each output still due and one for the commit: SEED responds with `SeedInit(seed)` in `S` (R107).  The
invariant reads `seed` as the latched argument, which SEED's own steps never do. -/
theorem responds_execTimes_expanding {seed : Word} {n : Nat} {s : State} (hpos : s.pos = .expanding)
    (hi : ExpandingInv { s with OP_R := 0x01, ARG_R := seed }) (hn : s.K.toNat + n = 4) :
    Responds (execTimes (n + 1) (.seed seed) s) s 0b00 0 (seedInit s.cfg seed) := by
  induction n generalizing s with
  | zero =>
    have hk : ¬ s.K < 4 := BitVec.not_lt.mpr (show 4 ≤ s.K.toNat by omega)
    have hE : s.E = expand s.cfg seed := hi.buffer_eq hk
    obtain ⟨t, ht, hresp⟩ := responds_exec_seed_commit seed hpos hk
    rw [hE] at hresp
    exact ⟨t, execTimes_succ 0 ht, hresp⟩
  | succ n ih =>
    have hk : s.K < 4 := BitVec.lt_def.mpr (show s.K.toNat < 4 by omega)
    rw [execTimes_succ (i := .seed seed) (n + 1) (execSeed_iterate seed s hpos hk)]
    exact ih (s := expandIteration s) hpos (hi.expandIteration hk) (by rw [toNat_K_expandIteration hk]; omega)

/-- The worked example of R107. -/
theorem seedInit_params_1337 : seedInit Config.params 1337 =
    ⟨0xB6A8A9B313CAA00B, 0xCB7F284B67D605C9, 0x3440FCCF54082B5A, 0x77026DC1FEEFC262⟩ :=
  (seedInit_eq_expand 1337 params_wf).trans (by decide)

/-- Settles O25: the first step loads the accumulator, and five more end the expansion. -/
theorem seedWritesSeedInit : Obligations.SeedWritesSeedInit := by
  refine ⟨fun s seed hpos => ?_, fun _ => rfl, seedInit_params_1337⟩
  have hload : exec (.seed seed) s = .next (expandStart seed s) := execSeed_start seed s (by simp [hpos])
  refine ⟨?_, fun n hn => ?_⟩
  · rw [execTimes_succ 5 hload]
    exact responds_execTimes_expanding (s := expandStart seed s) rfl
      (expandingInv_expandStart (s := { s with OP_R := 0x01, ARG_R := seed }) rfl) rfl
  · cases n with
    | zero => exact ⟨s, rfl, rfl, rfl⟩
    | succ n =>
      rw [execTimes_succ n hload]
      exact execTimes_seed_keeps_S seed (s := expandStart seed s) rfl (by change 0 + n ≤ 4; omega)

end Sys2Proof.Machine
end

section
/-! PROOF. Re-seeding reproduces the responses (`40_seed_expander.md` R109): runs of a command program from alike states
respond alike, whatever bound each has on its steps, and a block just seeded is alike to any other seeded with the same
word. -/

namespace Sys2Proof.Machine

/-! ### What a run that ends is made of -/

/-- A run to a response under a quiet host, with no bound on its steps. -/
inductive QuietRun : State → State → Prop where
  /-- the block presents its response -/
  | done {s : State} (hp : s.PHASE = .resp) : QuietRun s s
  /-- the command takes one more step -/
  | more {s t u : State} (hp : s.PHASE ≠ .resp) (h : step { s with ports := [] } = .next t) (hrun : QuietRun t u) :
      QuietRun s u

theorem quietRun_of_runToResponse {fuel : Nat} {s u : State} (h : runToResponse fuel s = some u) : QuietRun s u := by
  induction fuel generalizing s with
  | zero =>
    obtain ⟨hp, rfl⟩ : s.PHASE = .resp ∧ s = u := by simpa [runToResponse] using h
    exact .done hp
  | succ fuel ih =>
    by_cases hp : s.PHASE = .resp
    · cases h.symm.trans (runToResponse_of_resp _ hp)
      exact .done hp
    · cases hs : step { s with ports := [] } with
      | next t => exact .more hp hs (ih ((runToResponse_succ fuel hp hs).symm.trans h))
      | fault | refused => simp [runToResponse, hp, hs] at h

theorem QuietRun.PHASE_eq {s u : State} (h : QuietRun s u) : u.PHASE = .resp := by
  induction h with
  | done hp => exact hp
  | more _ _ _ ih => exact ih

/-- A command that ends was offered, ran to its response, and had that taken. -/
theorem runCommand_eq_some {fuel : Nat} {op : Opcode} {arg : Word} {s t : State} {r : Response}
    (h : runCommand fuel op arg s = some (t, r)) :
    ∃ s1 s2, step { s with ports := [offerCommand op arg] } = .next s1 ∧ QuietRun s1 s2 ∧
      step { s2 with ports := [takeSample] } = .next t ∧ r = ⟨s2.RSP_STATUS, s2.RSP_DATA⟩ := by
  unfold runCommand at h
  split at h
  case h_1 s1 h1 =>
    split at h
    case h_1 s2 h2 =>
      split at h
      case h_1 s3 h3 =>
        cases h
        exact ⟨s1, s2, h1, quietRun_of_runToResponse h2, h3, rfl⟩
      all_goals cases h
    all_goals cases h
  all_goals cases h

theorem runProgram_cons_eq_some {fuel : Nat} {op : Opcode} {arg : Word} {cs : List (Opcode × Word)} {s u : State}
    {rs : List Response} (h : runProgram fuel ((op, arg) :: cs) s = some (u, rs)) :
    ∃ t r rs', runCommand fuel op arg s = some (t, r) ∧ runProgram fuel cs t = some (u, rs') ∧ rs = r :: rs' := by
  rw [runProgram] at h
  split at h
  case h_1 t r ht =>
    split at h
    case h_1 v rs' hv =>
      cases h
      exact ⟨t, r, rs', ht, hv, rfl⟩
    case h_2 => cases h
  case h_2 => cases h

/-- The host of a command program has driven all it had to when the response is taken. -/
theorem ports_of_runCommand {fuel : Nat} {op : Opcode} {arg : Word} {s t : State} {r : Response}
    (h : runCommand fuel op arg s = some (t, r)) : t.ports = [] := by
  obtain ⟨-, s2, -, -, h3, -⟩ := runCommand_eq_some h
  exact (move_of_step h3).ports_eq

/-! ### Runs from alike states -/

theorem Alike.refl (s : State) : Alike s s :=
  ⟨rfl, rfl, rfl, rfl, fun _ => ⟨rfl, rfl, rfl⟩, fun _ _ => ⟨rfl, rfl, fun _ _ _ => rfl⟩,
    fun _ _ => ⟨rfl, fun _ => rfl, fun _ => rfl⟩, fun _ => ⟨rfl, rfl⟩⟩

theorem Alike.withPorts {s t : State} (ps : List PortSample) (h : Alike s t) :
    Alike { s with ports := ps } { t with ports := ps } :=
  { h with ports := rfl }

theorem Alike.of_step_eq {s t u v : State} (h : Alike s t) (hs : Machine.step s = .next u)
    (ht : Machine.step t = .next v) : Alike u v := by
  have huv := h.step
  rwa [hs, ht] at huv

theorem Alike.quietRun {s t u v : State} (h : Alike s t) (hs : QuietRun s u) (ht : QuietRun t v) : Alike u v := by
  induction hs generalizing t with
  | done hp =>
    cases ht with
    | done => exact h
    | more hpt => exact absurd (h.phase.symm.trans hp) hpt
  | more hp hstep _ ih =>
    cases ht with
    | done hpt => exact absurd (h.phase.trans hpt) hp
    | more _ hstep' hrun' => exact ih ((h.withPorts []).of_step_eq hstep hstep') hrun'

theorem Alike.runCommand {s t u v : State} {f g : Nat} {op : Opcode} {arg : Word} {r r' : Response} (h : Alike s t)
    (hs : Machine.runCommand f op arg s = some (u, r)) (ht : Machine.runCommand g op arg t = some (v, r')) :
    Alike u v ∧ r = r' := by
  obtain ⟨s1, s2, hs1, hs2, hs3, rfl⟩ := runCommand_eq_some hs
  obtain ⟨t1, t2, ht1, ht2, ht3, rfl⟩ := runCommand_eq_some ht
  have h2 : Alike s2 t2 := ((h.withPorts _).of_step_eq hs1 ht1).quietRun hs2 ht2
  obtain ⟨hst, hd⟩ := h2.response hs2.PHASE_eq
  exact ⟨(h2.withPorts _).of_step_eq hs3 ht3, by rw [hst, hd]⟩

theorem Alike.runProgram {s t u v : State} {f g : Nat} {cs : List (Opcode × Word)} {rs rs' : List Response}
    (h : Alike s t) (hs : Machine.runProgram f cs s = some (u, rs)) (ht : Machine.runProgram g cs t = some (v, rs')) :
    Alike u v ∧ rs = rs' := by
  induction cs generalizing s t rs rs' with
  | nil =>
    cases hs
    cases ht
    exact ⟨h, rfl⟩
  | cons c cs ih =>
    obtain ⟨s1, r, qs, hs1, hs2, rfl⟩ := runProgram_cons_eq_some hs
    obtain ⟨t1, r', qs', ht1, ht2, rfl⟩ := runProgram_cons_eq_some ht
    obtain ⟨h1, rfl⟩ := h.runCommand hs1 ht1
    obtain ⟨huv, rfl⟩ := ih h1 hs2 ht2
    exact ⟨huv, rfl⟩

/-! ### After SEED -/

/-- A run of SEED that ends, under any bound, ends as the run of six internal steps does (R107). -/
theorem of_runCommand_seed {fuel : Nat} {seed : Word} {s t : State} {r : Response} (hs : s.PHASE = .idle)
    (h : runCommand fuel 0x01 seed s = some (t, r)) :
    t.PHASE = .idle ∧ t.cfg = s.cfg ∧ t.S = seedInit s.cfg seed ∧ r = ⟨0b00, 0⟩ := by
  obtain ⟨t', h', hp, hc, hS⟩ := runCommand_seed seed hs le_rfl
  obtain ⟨ha, rfl⟩ := (Alike.refl s).runCommand h h'
  exact ⟨ha.phase.trans hp, ha.cfg.trans hc, ha.gen.trans hS, rfl⟩

/-- After the same SEED two blocks with equal parameters are alike, whatever they held before (R109). -/
theorem alike_of_runCommand_seed {f g : Nat} {seed : Word} {s t u v : State} {r r' : Response} (hc : s.cfg = t.cfg)
    (hs : s.PHASE = .idle) (ht : t.PHASE = .idle) (hu : runCommand f 0x01 seed s = some (u, r))
    (hv : runCommand g 0x01 seed t = some (v, r')) : Alike u v ∧ r = r' := by
  obtain ⟨hup, huc, huS, rfl⟩ := of_runCommand_seed hs hu
  obtain ⟨hvp, hvc, hvS, rfl⟩ := of_runCommand_seed ht hv
  exact ⟨.of_idle (by rw [huc, hvc, hc]) (by rw [huS, hvS, hc]) hup hvp
    ((ports_of_runCommand hu).trans (ports_of_runCommand hv).symm), rfl⟩

/-- Settles O56: after the SEED that opens both programs the two blocks are alike, and so are the rest of their runs. -/
theorem reseedingReproducesResponses : Obligations.ReseedingReproducesResponses := by
  intro s t u v f g seed cs rs rs' hc hs ht hu hv
  obtain ⟨s1, r, qs, hs1, hs2, rfl⟩ := runProgram_cons_eq_some hu
  obtain ⟨t1, r', qs', ht1, ht2, rfl⟩ := runProgram_cons_eq_some hv
  obtain ⟨h1, rfl⟩ := alike_of_runCommand_seed hc hs ht hs1 ht1
  obtain ⟨huv, rfl⟩ := h1.runProgram hs2 ht2
  exact ⟨rfl, huv.gen⟩

end Sys2Proof.Machine
end

section
/-! PROOF. The bit generator (`41_bit_generator.md` R130 to R137): `Advance` and `Out` as functions, and the two draw
commands that answer with them. -/

namespace Sys2Proof.Machine

/-! ### `Advance` in terms of the old words (R131) -/

theorem advance_w0 (p : Params) (q : Quad) : (advance p q).w0 = q.w0 ^^^ q.w3 ^^^ q.w1 :=
  (BitVec.xor_assoc ..).symm

theorem advance_w1 (p : Params) (q : Quad) : (advance p q).w1 = q.w1 ^^^ q.w2 ^^^ q.w0 :=
  (BitVec.xor_assoc ..).symm

theorem advance_w2 (p : Params) (q : Quad) : (advance p q).w2 = q.w2 ^^^ q.w0 ^^^ (q.w1 <<< p.genA) := rfl

theorem advance_w3 (p : Params) (q : Quad) : (advance p q).w3 = rotl64 (q.w3 ^^^ q.w1) p.genB := rfl

/-- Settles O26. -/
theorem advanceFromOldWords : Obligations.AdvanceFromOldWords := fun p q =>
  ⟨advance_w0 p q, advance_w1 p q, advance_w2 p q, advance_w3 p q⟩

/-! ### `Advance` is a bijection (R133) -/

/-- The xor of two words with the same image is a word that the shift fixes. -/
theorem xor_shiftLeft_injective {k : Nat} (hk : 1 ≤ k) : Function.Injective fun w : Word => w ^^^ w <<< k := by
  intro a b h
  have hker : (a ^^^ b) ^^^ (a ^^^ b) <<< k = 0 :=
    calc (a ^^^ b) ^^^ (a ^^^ b) <<< k
      _ = (a ^^^ a <<< k) ^^^ (b ^^^ b <<< k) := by rw [BitVec.shiftLeft_xor_distrib]; ac_rfl
      _ = 0 := BitVec.xor_eq_zero_iff.mpr h
  have hfix : a ^^^ b = (a ^^^ b) <<< k := BitVec.xor_eq_zero_iff.mp hker
  exact BitVec.xor_eq_zero_iff.mp (eq_zero_of_shiftLeft_eq_self hk hfix.symm)

/-- The words are recovered in turn: `S[0]` from the new words 0 and 3, `S[1]` from the xor of the new words 1 and 2,
and from those two the others. -/
theorem advance_injective {p : Params} (hp : p.wf = true) : Function.Injective (advance p) := by
  obtain ⟨-, -, hshift, -⟩ := (params_wf_iff p).mp hp
  obtain ⟨⟨hA, -⟩, -, hB⟩ := (generatorShifts_iff p).mp hshift
  intro q r h
  have h0 : q.w0 ^^^ q.w3 ^^^ q.w1 = r.w0 ^^^ r.w3 ^^^ r.w1 := by
    simpa only [advance_w0] using congrArg Quad.w0 h
  have h1 : q.w1 ^^^ q.w2 ^^^ q.w0 = r.w1 ^^^ r.w2 ^^^ r.w0 := by
    simpa only [advance_w1] using congrArg Quad.w1 h
  have h2 : q.w2 ^^^ q.w0 ^^^ q.w1 <<< p.genA = r.w2 ^^^ r.w0 ^^^ r.w1 <<< p.genA := by
    simpa only [advance_w2] using congrArg Quad.w2 h
  have h31 : q.w3 ^^^ q.w1 = r.w3 ^^^ r.w1 := by
    refine rotl64_injective hB ?_
    simpa only [advance_w3] using congrArg Quad.w3 h
  have hw0 : q.w0 = r.w0 := by rwa [BitVec.xor_assoc, BitVec.xor_assoc, h31, BitVec.xor_left_inj] at h0
  have hw1 : q.w1 = r.w1 := by
    refine xor_shiftLeft_injective hA ?_
    calc q.w1 ^^^ q.w1 <<< p.genA
      _ = (q.w1 ^^^ q.w2 ^^^ q.w0) ^^^ (q.w2 ^^^ q.w0 ^^^ q.w1 <<< p.genA) := by grind
      _ = (r.w1 ^^^ r.w2 ^^^ r.w0) ^^^ (r.w2 ^^^ r.w0 ^^^ r.w1 <<< p.genA) := by rw [h1, h2]
      _ = r.w1 ^^^ r.w1 <<< p.genA := by grind
  have hw2 : q.w2 = r.w2 := by rwa [hw0, hw1, BitVec.xor_left_inj, BitVec.xor_right_inj] at h1
  have hw3 : q.w3 = r.w3 := by rwa [hw1, BitVec.xor_left_inj] at h31
  cases q
  cases r
  simp_all

/-- There are finitely many states, one for each four words. -/
theorem finite_quad : Finite Quad :=
  Finite.of_injective (fun q : Quad => (q.w0, q.w1, q.w2, q.w3)) fun a b h => by
    cases a
    cases b
    simpa using h

@[simp] theorem advance_zero (p : Params) : advance p Quad.zero = Quad.zero := by
  simp [advance, Quad.zero, rotl64]

@[simp] theorem advanceBy_zero_quad (p : Params) (n : Nat) : advanceBy p n Quad.zero = Quad.zero := by
  induction n with
  | zero => rfl
  | succ n ih => rw [advanceBy, advance_zero, ih]

/-! ### `Out` (R130, R137) -/

theorem genOut_eq_of_w1_eq {q r : Quad} (h : q.w1 = r.w1) : genOut q = genOut r := by
  rw [genOut, genOut, h]

/-- `Out` reads `S[1]` through two odd multipliers and a rotation. -/
theorem genOut_injective_w1 : Function.Injective fun w : Word => genOut ⟨0, w, 0, 0⟩ :=
  (mul_odd_injective (m := Config.genMul2) (by decide)).comp
    ((rotl64_injective (k := Config.genRot) (by decide)).comp (mul_odd_injective (m := Config.genMul1) (by decide)))

theorem genOut_eq_zero_iff (q : Quad) : genOut q = 0 ↔ q.w1 = 0 :=
  genOut_injective_w1.eq_iff (a := q.w1) (b := 0)

@[simp] theorem genOut_zero : genOut Quad.zero = 0 := (genOut_eq_zero_iff _).mpr rfl

/-- Settles O27: on finitely many states an injection is a bijection. -/
theorem advanceIsBijection : Obligations.AdvanceIsBijection := by
  intro p hp
  have := finite_quad
  exact ⟨Finite.injective_iff_bijective.mp (advance_injective hp), advance_zero p, fun _ => advance_ne_zero hp,
    fun n => by simp [drawAt]⟩

/-! ### The draw commands (R135, R136) -/

theorem responds_exec_draw64 (s : State) : Responds (exec .draw64 s) s 0b00 (genOut s.S) (advance s.cfg s.S) :=
  responds_respond .ok (genOut s.S) (nextState s) s rfl rfl

theorem responds_exec_draw32 (s : State) :
    Responds (exec .draw32 s) s 0b00 (upper32 (genOut s.S)) (advance s.cfg s.S) :=
  responds_respond .ok (upper32 (genOut s.S)) (nextState s) s rfl rfl

theorem Responds.S_eq {o : Host.Outcome State Fault Refusal} {s t : State} {st : StatusBits} {d : Word} {q : Quad}
    (h : Responds o s st d q) (ht : o = .next t) : t.S = q := by
  obtain ⟨u, hu, -, -, -, hS, -⟩ := h
  cases hu.symm.trans ht
  exact hS

/-- Settles O28: both draws advance the one `S`. -/
theorem outputLaws : Obligations.OutputLaws :=
  ⟨fun _ _ => genOut_eq_of_w1_eq, Finite.injective_iff_bijective.mp genOut_injective_w1, genOut_eq_zero_iff,
    fun s _ _ ht hu => ((responds_exec_draw64 s).S_eq ht).trans ((responds_exec_draw32 s).S_eq hu).symm⟩

/-- Settles O29. -/
theorem draw64ReturnsDraw : Obligations.Draw64ReturnsDraw := by
  refine ⟨responds_exec_draw64, fun s h => ?_, fun _ => rfl, by rw [seedInit_params_1337]; decide⟩
  rw [← (genOut_eq_zero_iff s.S).mpr h]
  exact responds_exec_draw64 s

/-- The quotient fits in the low half, so neither field cut drops a bit. -/
theorem toNat_upper32 (r : Word) : (upper32 r).toNat = r.toNat / 2 ^ 32 := by
  simp only [upper32, BitVec.toNat_setWidth, BitVec.extractLsb'_toNat, Nat.shiftRight_eq_div_pow]
  omega

/-- Settles O30: the upper half of a draw is its quotient by 2^32. -/
theorem draw32ReturnsUpperHalf : Obligations.Draw32ReturnsUpperHalf :=
  ⟨fun s => ⟨upper32 (genOut s.S), toNat_upper32 _, responds_exec_draw32 s⟩, fun _ => rfl,
    by rw [seedInit_params_1337]; decide⟩

end Sys2Proof.Machine
end

section
/-! PROOF. The sampler's decisions as functions of the bound and one draw (`42_sampler.md` R160 to R170): bounds, thresholds
and limits as numbers, what each algorithm accepts, and how many draw values it accepts with each result. -/

namespace Sys2Proof.Machine

/-! ### Powers of two (R160) -/

theorem isPow2_iff (b : Word) : isPow2 b = true ↔ b ≠ 0 ∧ b &&& (b - 1) = 0 := by
  simp [isPow2]

theorem toNat_eq_zero_iff (b : Word) : b.toNat = 0 ↔ b = 0 :=
  (BitVec.toNat_eq (y := 0)).symm

theorem one_le_toNat {b : Word} (hb : b ≠ 0) : 1 ≤ b.toNat :=
  Nat.one_le_iff_ne_zero.mpr (mt (toNat_eq_zero_iff b).mp hb)

theorem toNat_sub_one {b : Word} (hb : b ≠ 0) : (b - 1).toNat = b.toNat - 1 :=
  BitVec.toNat_sub_of_le (one_le_toNat hb)

theorem exponent_lt_of_pow2 {b : Word} {k : Nat} (hb : b.toNat = 2 ^ k) : k < 64 :=
  (Nat.pow_lt_pow_iff_right (by decide)).mp (hb ▸ b.isLt)

/-- The test on words is the test on numbers, and a power of two that fits has its exponent below 64. -/
theorem isPow2_iff_exists (b : Word) : isPow2 b = true ↔ ∃ k, k < 64 ∧ b.toNat = 2 ^ k := by
  have hnat : isPow2 b = true ↔ b.toNat.isPowerOfTwo := by
    rw [isPow2_iff, ← Nat.ne_zero_and_sub_one_eq_zero_iff_isPowerOfTwo, Ne, Ne, toNat_eq_zero_iff]
    refine and_congr_right fun hb => ?_
    rw [← toNat_eq_zero_iff, BitVec.toNat_and, toNat_sub_one hb]
  rw [hnat]
  exact exists_congr fun k => (and_iff_right_of_imp exponent_lt_of_pow2).symm

theorem toNat_sub_one_of_pow2 {b : Word} {k : Nat} (hb : b.toNat = 2 ^ k) : (b - 1).toNat = 2 ^ k - 1 := by
  rw [toNat_sub_one (mt (toNat_eq_zero_iff b).mpr (by simp [hb])), hb]

/-- Settles O31. -/
theorem isPow2Characterised : Obligations.IsPow2Characterised :=
  ⟨isPow2_iff, isPow2_iff_exists, fun _ _ _ hb => toNat_sub_one_of_pow2 hb⟩

/-- The masked draw is the draw's remainder (R163). -/
theorem toNat_maskDraw {b : Word} {k : Nat} (x : Word) (hb : b.toNat = 2 ^ k) :
    (maskDraw b x).toNat = x.toNat % 2 ^ k := by
  rw [maskDraw, BitVec.toNat_and, toNat_sub_one_of_pow2 hb, Nat.and_two_pow_sub_one_eq_mod]

theorem maskDraw_lt {b : Word} (x : Word) (hb : isPow2 b = true) : maskDraw b x < b := by
  obtain ⟨k, -, hk⟩ := (isPow2_iff_exists b).mp hb
  rw [BitVec.lt_def, toNat_maskDraw x hk, hk]
  exact Nat.mod_lt _ (Nat.two_pow_pos k)

/-! ### The bounds of the general path (R168) -/

theorem generalBound_iff (b : Word) : generalBound b = true ↔ b ≠ 0 ∧ isPow2 b = false := by
  simp [generalBound]

theorem ne_zero_of_generalBound {b : Word} (hb : generalBound b = true) : b ≠ 0 :=
  ((generalBound_iff b).mp hb).1

/-- 1 and 2 are powers of two. -/
theorem three_le_of_generalBound {b : Word} (hb : generalBound b = true) : 3 ≤ b.toNat := by
  obtain ⟨h0, hpow⟩ := (generalBound_iff b).mp hb
  have hno : ∀ k < 64, b.toNat ≠ 2 ^ k := fun k hk h =>
    Bool.false_ne_true (hpow.symm.trans ((isPow2_iff_exists b).mpr ⟨k, hk, h⟩))
  have h1 : b.toNat ≠ 1 := hno 0 (by decide)
  have h2 : b.toNat ≠ 2 := hno 1 (by decide)
  have := one_le_toNat h0
  omega

/-! ### The threshold (R161) -/

theorem toNat_threshold_sub {b : Word} (hb : b ≠ 0) : (threshold b).toNat = (2 ^ 64 - b.toNat) % b.toNat := by
  have := one_le_toNat hb
  rw [threshold, BitVec.toNat_umod, BitVec.toNat_neg, Nat.mod_eq_of_lt (a := 2 ^ 64 - b.toNat) (by omega)]

theorem toNat_threshold {b : Word} (hb : b ≠ 0) : (threshold b).toNat = 2 ^ 64 % b.toNat := by
  rw [toNat_threshold_sub hb, ← Nat.mod_eq_sub_mod b.isLt.le]

theorem threshold_lt {b : Word} (hb : b ≠ 0) : threshold b < b := by
  rw [BitVec.lt_def, toNat_threshold hb]
  exact Nat.mod_lt _ (one_le_toNat hb)

/-- The divisors of 2^64 are powers of two. -/
theorem threshold_eq_zero_iff {b : Word} (hb : b ≠ 0) : threshold b = 0 ↔ isPow2 b = true := by
  rw [← toNat_eq_zero_iff, toNat_threshold hb, ← Nat.dvd_iff_mod_eq_zero,
    Nat.dvd_prime_pow Nat.prime_two, isPow2_iff_exists]
  exact exists_congr fun k => and_congr_left fun hk => ⟨fun _ => exponent_lt_of_pow2 hk, le_of_lt⟩

theorem one_le_toNat_threshold {b : Word} (hb : generalBound b = true) : 1 ≤ (threshold b).toNat := by
  obtain ⟨h0, hpow⟩ := (generalBound_iff b).mp hb
  exact one_le_toNat fun h => by simp [(threshold_eq_zero_iff h0).mp h] at hpow

/-- Settles O32. -/
theorem thresholdLaws : Obligations.ThresholdLaws := fun _ hb =>
  ⟨toNat_threshold_sub hb, toNat_threshold hb, threshold_lt hb, threshold_eq_zero_iff hb,
    fun hg => ⟨one_le_toNat_threshold hg, three_le_of_generalBound hg⟩⟩

/-! ### The limit (R165) -/

/-- 2^64 is not a multiple of a general bound, so the greatest multiple fits in a word. -/
theorem toNat_sampleLimit {b : Word} (hb : generalBound b = true) :
    (sampleLimit b).toNat = 2 ^ 64 / b.toNat * b.toNat := by
  have hT := one_le_toNat_threshold hb
  rw [toNat_threshold (ne_zero_of_generalBound hb)] at hT
  have := Nat.div_add_mod' (2 ^ 64) b.toNat
  rw [sampleLimit, BitVec.toNat_ofNat, Nat.mod_eq_of_lt (by omega)]

theorem toNat_sampleLimit_add_threshold {b : Word} (hb : generalBound b = true) :
    (sampleLimit b).toNat + (threshold b).toNat = 2 ^ 64 := by
  rw [toNat_sampleLimit hb, toNat_threshold (ne_zero_of_generalBound hb), Nat.div_add_mod']

/-- Settles O33: the limit and the threshold are quotient part and remainder of 2^64. -/
theorem limitIsExact : Obligations.LimitIsExact := by
  intro b hb
  have hsum := toNat_sampleLimit_add_threshold hb
  have hlt : (threshold b).toNat < b.toNat := threshold_lt (ne_zero_of_generalBound hb)
  exact ⟨toNat_sampleLimit hb, by omega, by omega⟩

/-! ### What each algorithm accepts (R164, R165) -/

theorem toNat_mul128 (a b : Word) : (mul128 a b).toNat = a.toNat * b.toNat := by
  have hlt : a.toNat * b.toNat < 2 ^ 64 * 2 ^ 64 := Nat.mul_lt_mul'' a.isLt b.isLt
  rw [mul128, BitVec.toNat_mul, BitVec.toNat_setWidth_of_le (by decide), BitVec.toNat_setWidth_of_le (by decide)]
  exact Nat.mod_eq_of_lt hlt

theorem toNat_lo64_mul128 (a b : Word) : (lo64 (mul128 a b)).toNat = a.toNat * b.toNat % 2 ^ 64 := by
  rw [lo64, BitVec.extractLsb'_toNat, toNat_mul128, Nat.shiftRight_zero]

theorem toNat_hi64_mul128 (a b : Word) : (hi64 (mul128 a b)).toNat = a.toNat * b.toNat / 2 ^ 64 := by
  have hlt : a.toNat * b.toNat < 2 ^ 64 * 2 ^ 64 := Nat.mul_lt_mul'' a.isLt b.isLt
  rw [hi64, BitVec.extractLsb'_toNat, toNat_mul128, Nat.shiftRight_eq_div_pow,
    Nat.mod_eq_of_lt (Nat.div_lt_of_lt_mul hlt)]

theorem judgeDraw_lemire_eq_some_iff {b : Word} (x r : Word) (hb : generalBound b = true) :
    judgeDraw .lemire b x = some r ↔
      2 ^ 64 % b.toNat ≤ x.toNat * b.toNat % 2 ^ 64 ∧ r.toNat = x.toNat * b.toNat / 2 ^ 64 := by
  have htest : judgeDraw .lemire b x = some r ↔ threshold b ≤ lo64 (mul128 x b) ∧ hi64 (mul128 x b) = r := by
    simp [judgeDraw, loopTest, lemireTest]
  rw [htest, BitVec.le_def, toNat_threshold (ne_zero_of_generalBound hb), toNat_lo64_mul128, BitVec.toNat_eq,
    toNat_hi64_mul128, eq_comm (a := r.toNat)]

theorem judgeDraw_modulo_eq_some_iff {b : Word} (x r : Word) (hb : generalBound b = true) :
    judgeDraw .modulo b x = some r ↔ x.toNat < 2 ^ 64 / b.toNat * b.toNat ∧ r.toNat = x.toNat % b.toNat := by
  have htest : judgeDraw .modulo b x = some r ↔ x < sampleLimit b ∧ x % b = r := by
    simp [judgeDraw, loopTest, moduloTest]
  rw [htest, BitVec.lt_def, toNat_sampleLimit hb, BitVec.toNat_eq, BitVec.toNat_umod, eq_comm (a := r.toNat)]

/-- Settles O34. -/
theorem acceptanceOnExactIntegers : Obligations.AcceptanceOnExactIntegers := fun _ x r hb =>
  ⟨judgeDraw_lemire_eq_some_iff x r hb, judgeDraw_modulo_eq_some_iff x r hb⟩

/-! ### The laws of R169 -/

theorem judgeDraw_lt {alg : SamplerAlg} {b x r : Word} (hb : generalBound b = true)
    (h : judgeDraw alg b x = some r) : r < b := by
  have hpos : 0 < b.toNat := one_le_toNat (ne_zero_of_generalBound hb)
  rw [BitVec.lt_def]
  cases alg with
  | lemire =>
    obtain ⟨-, hr⟩ := (judgeDraw_lemire_eq_some_iff x r hb).mp h
    rw [hr]
    exact Nat.div_lt_of_lt_mul (Nat.mul_lt_mul_of_pos_right x.isLt hpos)
  | modulo =>
    obtain ⟨-, hr⟩ := (judgeDraw_modulo_eq_some_iff x r hb).mp h
    rw [hr]
    exact Nat.mod_lt _ hpos

/-- The low half of a zero product is below the threshold, which is at least 1. -/
theorem judgeDraw_lemire_zero {b : Word} (hb : generalBound b = true) : judgeDraw .lemire b 0 = none := by
  have hT := one_le_toNat_threshold hb
  rw [toNat_threshold (ne_zero_of_generalBound hb)] at hT
  refine Option.eq_none_iff_forall_ne_some.mpr fun r h => ?_
  obtain ⟨hle, -⟩ := (judgeDraw_lemire_eq_some_iff 0 r hb).mp h
  rw [(toNat_eq_zero_iff 0).mpr rfl, Nat.zero_mul, Nat.zero_mod] at hle
  omega

theorem judgeDraw_modulo_zero {b : Word} (hb : generalBound b = true) : judgeDraw .modulo b 0 = some 0 := by
  have hpos : 0 < b.toNat := one_le_toNat (ne_zero_of_generalBound hb)
  refine (judgeDraw_modulo_eq_some_iff 0 0 hb).mpr ⟨?_, by simp⟩
  exact Nat.mul_pos (Nat.div_pos b.isLt.le hpos) hpos

/-- The threshold lies below the bound, so a low half that is at least the bound passes the test. -/
theorem judgeDraw_lemire_of_le {b x : Word} (hb : generalBound b = true) (h : b ≤ lo64 (mul128 x b)) :
    judgeDraw .lemire b x = some (hi64 (mul128 x b)) :=
  if_pos (BitVec.le_trans (BitVec.le_of_lt (threshold_lt (ne_zero_of_generalBound hb))) h)

/-- Settles O35. -/
theorem samplerLaws : Obligations.SamplerLaws :=
  ⟨fun _ x hb => maskDraw_lt x hb, fun _ _ _ _ hb h => judgeDraw_lt hb h,
    fun _ hb => ⟨judgeDraw_lemire_zero hb, judgeDraw_modulo_zero hb⟩, fun _ _ hb h => judgeDraw_lemire_of_le hb h⟩

/-! ### How many draw values each result has (R170) -/

/-- Words enumerated without repetition by `q` numbers are `q` words. -/
theorem ncard_of_enumeration {p : Word → Prop} {q : Nat} (f : Nat → Nat) (hf : Function.Injective f)
    (hlt : ∀ j < q, f j < 2 ^ 64) (hp : ∀ x : Word, p x ↔ ∃ j < q, f j = x.toNat) : Set.ncard {x | p x} = q := by
  have himage : BitVec.toNat '' {x | p x} = f '' (Finset.range q : Set Nat) := by
    ext n
    constructor
    · rintro ⟨x, hx, rfl⟩
      obtain ⟨j, hj, hfj⟩ := (hp x).mp hx
      exact ⟨j, Finset.mem_coe.mpr (Finset.mem_range.mpr hj), hfj⟩
    · rintro ⟨j, hj, rfl⟩
      have hjq : j < q := Finset.mem_range.mp (Finset.mem_coe.mp hj)
      have hx : (BitVec.ofNat 64 (f j)).toNat = f j := by rw [BitVec.toNat_ofNat, Nat.mod_eq_of_lt (hlt j hjq)]
      exact ⟨BitVec.ofNat 64 (f j), (hp _).mpr ⟨j, hjq, hx.symm⟩, hx⟩
  calc Set.ncard {x | p x}
    _ = (BitVec.toNat '' {x | p x}).ncard := (Set.ncard_image_of_injective _ fun _ _ => BitVec.eq_of_toNat_eq).symm
    _ = (f '' (Finset.range q : Set Nat)).ncard := by rw [himage]
    _ = q := by rw [Set.ncard_image_of_injective _ hf, Set.ncard_coe_finset, Finset.card_range]

/-- MODULO accepts with `r` the draws `j * b + r`, one for each whole block of `b` values below 2^64. -/
theorem ncard_modulo_accepts {b r : Word} (hb : generalBound b = true) (hr : r < b) :
    Set.ncard {x : Word | judgeDraw .modulo b x = some r} = 2 ^ 64 / b.toNat := by
  have hrb : r.toNat < b.toNat := hr
  have hpos : 0 < b.toNat := by omega
  have hroom : ∀ j < 2 ^ 64 / b.toNat, j * b.toNat + r.toNat < 2 ^ 64 / b.toNat * b.toNat := fun j hj =>
    calc j * b.toNat + r.toNat
      _ < (j + 1) * b.toNat := by rw [Nat.add_one_mul]; omega
      _ ≤ 2 ^ 64 / b.toNat * b.toNat := Nat.mul_le_mul_right _ hj
  refine ncard_of_enumeration (fun j => j * b.toNat + r.toNat) (fun i j h => ?_)
    (fun j hj => (hroom j hj).trans_le (Nat.div_mul_le_self _ _)) fun x => ?_
  · exact Nat.eq_of_mul_eq_mul_right hpos (Nat.add_right_cancel h)
  · rw [judgeDraw_modulo_eq_some_iff x r hb]
    constructor
    · rintro ⟨hx, hmod⟩
      exact ⟨x.toNat / b.toNat, (Nat.div_lt_iff_lt_mul hpos).mpr hx, by rw [hmod, Nat.div_add_mod']⟩
    · rintro ⟨j, hj, hx⟩
      rw [← hx, Nat.mul_add_mod', Nat.mod_eq_of_lt hrb]
      exact ⟨hroom j hj, rfl⟩

/-- A half-open window of length `q * b` holds the products of `b` with `q` consecutive numbers. -/
theorem mul_mem_window_iff {b : Nat} (hb : 0 < b) (a q x : Nat) :
    a ≤ x * b ∧ x * b < a + q * b ↔ ∃ j < q, a ⌈/⌉ b + j = x := by
  have hlow : ∀ y, a ⌈/⌉ b ≤ y ↔ a ≤ y * b := fun y => by rw [ceilDiv_le_iff_le_mul hb, mul_comm]
  constructor
  · rintro ⟨hax, hxa⟩
    obtain ⟨j, rfl⟩ := Nat.exists_eq_add_of_le ((hlow x).mpr hax)
    have hfirst : a ≤ a ⌈/⌉ b * b := (hlow _).mp le_rfl
    rw [Nat.add_mul] at hxa
    exact ⟨j, Nat.lt_of_mul_lt_mul_right (a := b) (by omega), rfl⟩
  · rintro ⟨j, hj, rfl⟩
    refine ⟨(hlow _).mp (Nat.le_add_right _ _), Nat.lt_of_not_le fun hge => ?_⟩
    have hq : q ≤ a ⌈/⌉ b + j := Nat.le_of_mul_le_mul_right ((Nat.le_add_left _ _).trans hge) hb
    have hback : a ⌈/⌉ b ≤ a ⌈/⌉ b + j - q := (hlow _).mpr (by rw [Nat.sub_mul]; omega)
    omega

/-- LEMIRE accepts with `r` the draws whose product with `b` lies in the upper part, of length `2^64 / b * b`, of the
window of the products with high half `r`. -/
theorem ncard_lemire_accepts {b r : Word} (hb : generalBound b = true) (hr : r < b) :
    Set.ncard {x : Word | judgeDraw .lemire b x = some r} = 2 ^ 64 / b.toNat := by
  have hrb : r.toNat < b.toNat := hr
  have hpos : 0 < b.toNat := by omega
  have hsplit := Nat.div_add_mod' (2 ^ 64) b.toNat
  have hwindow := mul_mem_window_iff hpos (r.toNat * 2 ^ 64 + 2 ^ 64 % b.toNat) (2 ^ 64 / b.toNat)
  refine ncard_of_enumeration (fun j => (r.toNat * 2 ^ 64 + 2 ^ 64 % b.toNat) ⌈/⌉ b.toNat + j)
    (add_right_injective _) (fun j hj => ?_) fun x => ?_
  · obtain ⟨-, hlt⟩ := (hwindow _).mpr ⟨j, hj, rfl⟩
    refine Nat.lt_of_mul_lt_mul_right (a := b.toNat) (hlt.trans_le ?_)
    omega
  · rw [judgeDraw_lemire_eq_some_iff x r hb, ← hwindow]
    omega

theorem ncard_judgeDraw_eq_some (alg : SamplerAlg) {b r : Word} (hb : generalBound b = true) (hr : r < b) :
    Set.ncard {x : Word | judgeDraw alg b x = some r} = 2 ^ 64 / b.toNat := by
  cases alg with
  | lemire => exact ncard_lemire_accepts hb hr
  | modulo => exact ncard_modulo_accepts hb hr

theorem card_words_lt (b : Word) : (Finset.univ.filter (· < b)).card = b.toNat := by
  rw [← Set.ncard_coe_finset, Finset.coe_filter_univ]
  exact ncard_of_enumeration id Function.injective_id (fun _ hj => hj.trans b.isLt) fun r => by simp [BitVec.lt_def]

/-- Every draw value is rejected or accepted with one result below the bound, and each result takes `2^64 / b` of
them. -/
theorem ncard_judgeDraw_eq_none (alg : SamplerAlg) {b : Word} (hb : generalBound b = true) :
    Set.ncard {x : Word | judgeDraw alg b x = none} = (threshold b).toNat := by
  have hmaps : Set.MapsTo (judgeDraw alg b) (Finset.univ : Finset Word)
      (Finset.insertNone (Finset.univ.filter (· < b))) := fun x _ => by
    simpa using fun r => judgeDraw_lt hb
  have hfiber : ∀ o, (Finset.univ.filter fun x => judgeDraw alg b x = o).card =
      Set.ncard {x : Word | judgeDraw alg b x = o} := fun o => by
    rw [← Set.ncard_coe_finset, Finset.coe_filter_univ]
  have htotal : 2 ^ 64 = Set.ncard {x : Word | judgeDraw alg b x = none} + b.toNat * (2 ^ 64 / b.toNat) :=
    calc 2 ^ 64
      _ = (Finset.univ : Finset Word).card := by
          rw [Finset.card_univ, ← FinEnum.card_eq_fintypeCard, FinEnum.card_bitVec]
      _ = ∑ o ∈ Finset.insertNone (Finset.univ.filter (· < b)),
            Set.ncard {x : Word | judgeDraw alg b x = o} := by
          simp only [Finset.card_eq_sum_card_fiberwise hmaps, hfiber]
      _ = Set.ncard {x : Word | judgeDraw alg b x = none} + b.toNat * (2 ^ 64 / b.toNat) := by
          rw [Finset.sum_insertNone, Finset.sum_congr rfl fun r hr =>
            ncard_judgeDraw_eq_some alg hb (Finset.mem_filter.mp hr).2, Finset.sum_const, card_words_lt, smul_eq_mul]
  have hsplit := Nat.div_add_mod (2 ^ 64) b.toNat
  rw [toNat_threshold (ne_zero_of_generalBound hb)]
  omega

/-- Settles O36. -/
theorem acceptanceIsUniform : Obligations.AcceptanceIsUniform := fun alg _ hb =>
  ⟨ncard_judgeDraw_eq_none alg hb, fun _ hr => ncard_judgeDraw_eq_some alg hb hr⟩

end Sys2Proof.Machine
end

section
/-! PROOF. The sampler's commands SAMPLE and ONEIN (`42_sampler.md` R162 to R174): the bounds that make no draw or one, the
setup and one iteration of the general path, and the loop up to the first accepted draw. -/

namespace Sys2Proof.Machine

/-! ### The two commands as one -/

/-- The sampler's commands for a bound, each with what it makes of a sampled value: SAMPLE answers with the value
(R172), ONEIN with whether it is 0 (R174). -/
inductive SamplerCommand (b : Word) : Instr → (Word → Word) → Prop where
  | sample : SamplerCommand b (.sample b) id
  | onein : SamplerCommand b (.onein b) oneInData

theorem samplerCommand_of_or {b : Word} {i : Instr} (hi : i = .sample b ∨ i = .onein b) :
    ∃ finish, SamplerCommand b i finish := by
  rcases hi with rfl | rfl
  · exact ⟨id, .sample⟩
  · exact ⟨oneInData, .onein⟩

theorem oneInData_eq_one_iff (r : Word) : oneInData r = 1 ↔ r = 0 := by
  simp [oneInData]

theorem oneInData_eq_one_or_zero (r : Word) : oneInData r = 1 ∨ oneInData r = 0 :=
  ite_eq_or_eq ..

/-- An `OK` response over the state after one draw. -/
theorem responds_draw (d : Word) (s : State) :
    Responds (.next (respond .ok d (nextState s))) s 0b00 d (advance s.cfg s.S) :=
  responds_respond .ok d (nextState s) s rfl rfl

/-! ### Bounds that make no draw, and powers of two (R162, R163, R173) -/

theorem responds_exec_sample_zero {s : State} (hpos : s.pos ≠ .drawing) : Responds (exec (.sample 0) s) s 0b00 0 s.S := by
  rw [exec, execSample_dispatch 0 s hpos]
  exact responds_respond .ok 0 s s rfl rfl

theorem responds_exec_onein_degenerate {s : State} {b : Word} (hpos : s.pos ≠ .drawing) (hb : b ≤ 1) :
    Responds (exec (.onein b) s) s 0b00 1 s.S := by
  rw [exec, execOnein_degenerate b s hpos hb]
  exact responds_respond .ok 1 s s rfl rfl

theorem start_ne_drawing {s : State} (hpos : s.pos = .start) : s.pos ≠ .drawing := by
  simp [hpos]

/-- Settles O37. -/
theorem degenerateBoundsMakeNoDraw : Obligations.DegenerateBoundsMakeNoDraw :=
  ⟨fun _ hpos => responds_exec_sample_zero (start_ne_drawing hpos),
    fun _ _ hpos hb => responds_exec_onein_degenerate (start_ne_drawing hpos) hb⟩

theorem responds_exec_sample_pow2 {s : State} {b : Word} (hpos : s.pos ≠ .drawing) (hb : isPow2 b = true) :
    Responds (exec (.sample b) s) s 0b00 (maskDraw b (genOut s.S)) (advance s.cfg s.S) := by
  rw [exec, execSample_dispatch b s hpos, sampleDispatch_pow2 id hb]
  exact responds_draw _ s

theorem responds_exec_onein_pow2 {s : State} {b : Word} (hpos : s.pos ≠ .drawing) (h1 : ¬ b ≤ 1)
    (hb : isPow2 b = true) :
    Responds (exec (.onein b) s) s 0b00 (oneInData (maskDraw b (genOut s.S))) (advance s.cfg s.S) := by
  rw [exec, execOnein_dispatch b s hpos h1, sampleDispatch_pow2 oneInData hb]
  exact responds_draw _ s

theorem maskDraw_one (x : Word) : maskDraw 1 x = 0 := by
  simp [maskDraw]

/-- Settles O38: the masks of the bounds 1 and 2^63 keep no bit and the low 63. -/
theorem samplePowerOfTwoMasksOneDraw : Obligations.SamplePowerOfTwoMasksOneDraw := by
  intro s hpos
  have hd : s.pos ≠ .drawing := start_ne_drawing hpos
  refine ⟨fun b hb => responds_exec_sample_pow2 hd hb, ?_, maskDraw 0x8000000000000000 (genOut s.S),
    toNat_maskDraw _ rfl, responds_exec_sample_pow2 hd rfl⟩
  rw [← maskDraw_one (genOut s.S)]
  exact responds_exec_sample_pow2 hd rfl

/-- Settles O43: the masked draw is 0 where the draw's remainder is. -/
theorem oneinPowerOfTwoTestsLowBits : Obligations.OneinPowerOfTwoTestsLowBits := by
  intro s b k hpos hk1 hk64 hb
  have h2 : 2 ^ 1 ≤ b.toNat := hb ▸ Nat.pow_le_pow_right (by decide) hk1
  have h1 : ¬ b ≤ 1 := Nat.not_le.mpr h2
  refine ⟨oneInData (maskDraw b (genOut s.S)), oneInData_eq_one_or_zero _, ?_,
    responds_exec_onein_pow2 (start_ne_drawing hpos) h1 ((isPow2_iff_exists b).mpr ⟨k, hk64, hb⟩)⟩
  rw [oneInData_eq_one_iff, ← toNat_eq_zero_iff, toNat_maskDraw _ hb]

/-! ### One internal step of the general path (R164, R165, R167) -/

theorem sampleDispatch_general (finish : Word → Word) {b : Word} (hb : generalBound b = true) (s : State) :
    sampleDispatch finish b s = sampleSetup b s := by
  obtain ⟨h0, hpow⟩ := (generalBound_iff b).mp hb
  rw [sampleDispatch, if_neg h0, if_neg (by simp [hpow])]

section
variable {b : Word} {i : Instr} {finish : Word → Word} (c : SamplerCommand b i finish) {s : State}
include c

theorem SamplerCommand.exec_setup (hpos : s.pos ≠ .drawing) (hb : generalBound b = true) :
    exec i s = .next (sampleSetup b s) := by
  cases c with
  | sample => rw [exec, execSample_dispatch b s hpos, sampleDispatch_general _ hb]
  | onein =>
    have h3 := three_le_of_generalBound hb
    have h1 : ¬ b ≤ 1 := Nat.not_le.mpr (by change 1 < b.toNat; omega)
    rw [exec, execOnein_dispatch b s hpos h1, sampleDispatch_general _ hb]

theorem SamplerCommand.exec_drawing (hpos : s.pos = .drawing) : exec i s = .next (sampleIteration finish s) := by
  cases c with
  | sample => exact execSample_drawing b s hpos
  | onein => exact execOnein_drawing b s hpos

theorem SamplerCommand.exec_reject (hpos : s.pos = .drawing)
    (h : loopTest s.cfg.samplerAlg s.SB s.STH s.SLIM (genOut s.S) = none) : exec i s = .next (nextState s) := by
  rw [c.exec_drawing hpos, sampleIteration, nextOutput, h]

theorem SamplerCommand.responds_accept {r : Word} (hpos : s.pos = .drawing)
    (h : loopTest s.cfg.samplerAlg s.SB s.STH s.SLIM (genOut s.S) = some r) :
    Responds (exec i s) s 0b00 (finish r) (advance s.cfg s.S) := by
  rw [c.exec_drawing hpos, sampleIteration, nextOutput, h]
  exact responds_draw _ s

end

/-- Settles O39: the setup writes the registers of the algorithm in use. -/
theorem generalPathSetup : Obligations.GeneralPathSetup := by
  intro s b i hi hpos hb
  obtain ⟨finish, c⟩ := samplerCommand_of_or hi
  have hexec := c.exec_setup (start_ne_drawing hpos) hb
  exact ⟨fun ha => hexec.trans (congrArg _ (sampleSetup_lemire s b ha)),
    fun ha => hexec.trans (congrArg _ (sampleSetup_modulo s b ha))⟩

/-- Settles O40. -/
theorem loopIteration : Obligations.LoopIteration := by
  intro s b hpos
  refine ⟨fun i hi h => ?_, fun r h => ⟨SamplerCommand.sample.responds_accept hpos h,
    SamplerCommand.onein.responds_accept hpos h⟩⟩
  obtain ⟨finish, c⟩ := samplerCommand_of_or hi
  exact c.exec_reject hpos h

/-! ### The loop (R166, R167) -/

/-- The command is in its loop, and the registers make it decide about each draw as the general path for `b` does. -/
structure LoopsFor (b : Word) (s : State) : Prop where
  drawing : s.pos = .drawing
  test (x : Word) : loopTest s.cfg.samplerAlg s.SB s.STH s.SLIM x = judgeDraw s.cfg.samplerAlg b x

theorem loopsFor_sampleSetup (b : Word) (s : State) : LoopsFor b (sampleSetup b s) := by
  refine ⟨sampleSetup_pos s b, fun x => ?_⟩
  cases ha : s.cfg.samplerAlg with
  | lemire => simp [sampleSetup_lemire s b ha, ha, judgeDraw, loopTest]
  | modulo => simp [sampleSetup_modulo s b ha, ha, judgeDraw, loopTest]

/-- The invariant of the sampler's loop says that the registers are set up for the latched bound. -/
theorem DrawingInv.loopsFor {s : State} (h : DrawingInv s) (hpos : s.pos = .drawing) : LoopsFor s.ARG_R s := by
  obtain ⟨-, hSB, -, hSTH, hSLIM⟩ := h
  refine ⟨hpos, fun x => ?_⟩
  cases ha : s.cfg.samplerAlg with
  | lemire => rw [hSTH ha, hSB]; rfl
  | modulo => rw [hSLIM ha, hSB]; rfl

/-- No iteration writes the sampler's registers. -/
theorem LoopsFor.nextState {b : Word} {s : State} (h : LoopsFor b s) : LoopsFor b (nextState s) :=
  ⟨h.drawing, h.test⟩

section
variable {b : Word} {i : Instr} {finish : Word → Word} (c : SamplerCommand b i finish)
include c

/-- While draws are rejected only `S` changes, by one draw an iteration. -/
theorem SamplerCommand.execTimes_rejected {n : Nat} {s : State} (hs : LoopsFor b s)
    (hrej : ∀ m, m < n → judgeDraw s.cfg.samplerAlg b (drawAt s.cfg m s.S) = none) :
    execTimes n i s = .next { s with S := advanceBy s.cfg n s.S } := by
  induction n generalizing s with
  | zero => rfl
  | succ n ih =>
    have hstep : exec i s = .next (nextState s) :=
      c.exec_reject hs.drawing ((hs.test _).trans (hrej 0 n.succ_pos))
    rw [execTimes_succ n hstep]
    exact ih hs.nextState fun m hm => hrej (m + 1) (Nat.succ_lt_succ hm)

/-- The first accepted draw ends the loop. -/
theorem SamplerCommand.responds_execTimes_loop {n : Nat} {r : Word} {s : State} (hs : LoopsFor b s)
    (hrej : ∀ m, m < n → judgeDraw s.cfg.samplerAlg b (drawAt s.cfg m s.S) = none)
    (hacc : judgeDraw s.cfg.samplerAlg b (drawAt s.cfg n s.S) = some r) :
    Responds (execTimes (n + 1) i s) s 0b00 (finish r) (advanceBy s.cfg (n + 1) s.S) := by
  induction n generalizing s with
  | zero =>
    obtain ⟨t, ht, hresp⟩ := c.responds_accept hs.drawing ((hs.test _).trans hacc)
    exact ⟨t, execTimes_succ 0 ht, hresp⟩
  | succ n ih =>
    have hstep : exec i s = .next (Machine.nextState s) :=
      c.exec_reject hs.drawing ((hs.test _).trans (hrej 0 n.succ_pos))
    rw [execTimes_succ (n + 1) hstep]
    exact ih hs.nextState (fun m hm => hrej (m + 1) (Nat.succ_lt_succ hm)) hacc

/-- From its start the command sets up the general path, and answers with the first accepted draw. -/
theorem SamplerCommand.responds_execTimes {n : Nat} {r : Word} {s : State} (hpos : s.pos = .start)
    (hb : generalBound b = true)
    (hrej : ∀ m, m < n → judgeDraw s.cfg.samplerAlg b (drawAt s.cfg m s.S) = none)
    (hacc : judgeDraw s.cfg.samplerAlg b (drawAt s.cfg n s.S) = some r) :
    Responds (execTimes (n + 2) i s) s 0b00 (finish r) (advanceBy s.cfg (n + 1) s.S) := by
  have hloop := c.responds_execTimes_loop (n := n) (r := r) (loopsFor_sampleSetup b s)
  simp only [sampleSetup_cfg, sampleSetup_S] at hloop
  rw [execTimes_succ (n + 1) (c.exec_setup (start_ne_drawing hpos) hb)]
  simpa only [Responds, sampleSetup_cfg, sampleSetup_ports] using hloop hrej hacc

end

/-- Settles O41. -/
theorem sampleReturnsFirstAcceptedDraw : Obligations.SampleReturnsFirstAcceptedDraw :=
  fun _ _ _ _ hpos hb => SamplerCommand.sample.responds_execTimes hpos hb

/-- Settles O44. -/
theorem oneinTestsFirstAcceptedDraw : Obligations.OneinTestsFirstAcceptedDraw :=
  fun _ _ _ _ hpos hb => SamplerCommand.onein.responds_execTimes hpos hb

/-- Settles O42: the state after the setup step and `n` rejections is that of the setup but for `S`. -/
theorem rejectedDrawsKeepExecuting : Obligations.RejectedDrawsKeepExecuting := by
  intro s b n i hi hpos hb hrej
  obtain ⟨finish, c⟩ := samplerCommand_of_or hi
  have hloop := c.execTimes_rejected (n := n) (loopsFor_sampleSetup b s) (by simpa using hrej)
  exact ⟨_, (execTimes_succ n (c.exec_setup (start_ne_drawing hpos) hb)).trans hloop, by simp⟩

/-! ### The range of a response to SAMPLE (R169, R172) -/

/-- An iteration that responds answers below the bound. -/
theorem sampleIteration_data_lt {s : State} {b : Word} (hs : LoopsFor b s) (hb : generalBound b = true)
    (hp : s.PHASE = .exec) (ht : (sampleIteration id s).PHASE = .resp) : (sampleIteration id s).RSP_DATA < b := by
  rcases sampleIteration_cases id s with ⟨r, hr, he⟩ | ⟨-, he⟩ <;> rw [he] at ht ⊢
  · exact judgeDraw_lt (r := r) hb ((hs.test _).symm.trans hr)
  · simp [hp] at ht

/-- A dispatch that responds answers below the bound, or 0 for bound 0. -/
theorem sampleDispatch_data_inRange {s : State} {b : Word} (hp : s.PHASE = .exec)
    (ht : (sampleDispatch id b s).PHASE = .resp) :
    (b ≠ 0 → (sampleDispatch id b s).RSP_DATA < b) ∧ (b = 0 → (sampleDispatch id b s).RSP_DATA = 0) := by
  rcases sampleDispatch_cases id b s with ⟨h0, he⟩ | ⟨hb, he⟩ | ⟨-, he⟩ <;> rw [he] at ht ⊢
  · exact ⟨fun hne => absurd h0 hne, fun _ => rfl⟩
  · exact ⟨fun _ => maskDraw_lt _ hb, fun h0 => absurd h0 (ne_zero_of_isPow2 hb)⟩
  · simp [hp] at ht

/-- Settles O45: the invariant has the loop's registers set up for the latched bound. -/
theorem sampleResponseIsInRange : Obligations.SampleResponseIsInRange := by
  intro s t hinv ho hp hop hstep ht
  have hd : decodeFields s.OP_R s.ARG_R = .ok (.sample s.ARG_R) := by rw [hop]; rfl
  rw [step_of_exec s ho hp, execStep_of_ok (s := dropPort s) hd] at hstep
  by_cases hpos : s.pos = .drawing
  · have hdraw : DrawingInv (dropPort s) := hinv.drawing hp hpos
    have hb : generalBound s.ARG_R = true := by
      obtain ⟨-, hSB, hb, -⟩ := hdraw
      exact hSB ▸ hb
    cases (execSample_drawing s.ARG_R (dropPort s) hpos).symm.trans hstep
    exact ⟨fun _ => sampleIteration_data_lt (hdraw.loopsFor hpos) hb hp ht,
      fun h0 => absurd h0 (ne_zero_of_generalBound hb)⟩
  · cases (execSample_dispatch s.ARG_R (dropPort s) hpos).symm.trans hstep
    exact sampleDispatch_data_inRange hp ht

end Sys2Proof.Machine
end

section
/-! PROOF. What the block has in place of exceptions (`60_exceptions.md` R200 to R203): a legal command responds `OK` and
an illegal opcode `ILLEGAL`, so no reserved status is presented and no step faults.  Then what continues or waits (R214),
and the blocks of a system (R212). -/

namespace Sys2Proof.Machine

/-! ### The status of a response (R200, R202) -/

/-- A decoded command that responds does so with `OK` (R200). -/
theorem RSP_STATUS_of_exec {i : Instr} {s t : State} (hp : s.PHASE = .exec) (h : exec i s = .next t)
    (ht : t.PHASE = .resp) : t.RSP_STATUS = statusBits .ok := by
  rcases exec_cases i s with ⟨_, he⟩ | ⟨_, he, -⟩ | ⟨_, -, -, -, he⟩ | ⟨_, -, -, he⟩ | ⟨_, -, -, -, he⟩ |
    ⟨_, -, -, -, he⟩ | ⟨_, -, -, he⟩ <;> cases he.symm.trans h
  case inl | inr.inl | inr.inr.inl => rfl
  all_goals simp [hp] at ht

/-- In `EXEC` the latched opcode alone decides the status of the response. -/
theorem RSP_STATUS_of_execStep {s t : State} (hp : s.PHASE = .exec) (h : execStep s = .next t) (ht : t.PHASE = .resp) :
    ((1 ≤ s.OP_R.toNat ∧ s.OP_R.toNat ≤ 5) ∧ t.RSP_STATUS = statusBits .ok) ∨
    ((s.OP_R.toNat = 0 ∨ 6 ≤ s.OP_R.toNat) ∧ t.RSP_STATUS = statusBits .illegal) := by
  rcases execStep_cases s with ⟨i, hd, he⟩ | ⟨e, hd, he⟩
  · exact .inl ⟨(exists_decodeFields_eq_ok_iff _ _).mp ⟨i, hd⟩, RSP_STATUS_of_exec hp (he.symm.trans h) ht⟩
  · cases he.symm.trans h
    exact .inr ⟨(decodeFields_eq_error_iff.mp hd).right, rfl⟩

/-- Settles O46: the two statuses differ, and the two ranges of opcodes exclude each other. -/
theorem legalCommandsAlwaysRespondOk : Obligations.LegalCommandsAlwaysRespondOk := by
  intro s t ho hp h ht
  rw [step_of_exec s ho hp] at h
  rcases RSP_STATUS_of_execStep (s := dropPort s) hp h ht with ⟨hop, hst⟩ | ⟨hop, hst⟩ <;>
    rw [dropPort_OP_R] at hop
  · exact ⟨iff_of_true hst hop, iff_of_false (by simp [hst, statusBits]) (by omega)⟩
  · exact ⟨iff_of_false (by simp [hst, statusBits]) (by omega), iff_of_true hst hop⟩

/-! ### Reserved statuses (R203) -/

theorem reservedStatus_iff (st : StatusBits) : reservedStatus st = true ↔ st = 0b10 ∨ st = 0b11 := by
  simp [reservedStatus]

theorem respStep_eq_fault_iff (p : PortSample) (s : State) (r : Fault) :
    respStep p s = .fault r ↔ reservedStatus s.RSP_STATUS = true := by
  cases r
  rcases respStep_cases p s with ⟨hst, h⟩ | ⟨hst, -, h⟩ | ⟨hst, -, h⟩ <;> simp [h, hst]

/-- A reset continues, a contested sample is refused, and of the phases only `RESP` can fault. -/
theorem step_eq_fault_iff (s : State) (r : Fault) :
    step s = .fault r ↔ ordinary s ∧ s.PHASE = .resp ∧ reservedStatus s.RSP_STATUS = true := by
  by_cases hr : (portNow s).rst = true
  · simp [step_of_rst s hr, ordinary, hr]
  · rw [Bool.not_eq_true] at hr
    by_cases hc : (portNow s).contested = true
    · simp [step_of_contested s hr hc, ordinary, hc]
    · have ho : ordinary s := ⟨hr, by simpa using hc⟩
      cases hp : s.PHASE with
      | idle => simp [step_of_idle s ho hp]
      | exec =>
        obtain ⟨t, ht⟩ := execStep_eq_next (dropPort s)
        simp [step_of_exec s ho hp, ht]
      | resp => simp [step_of_resp s ho hp, respStep_eq_fault_iff, ho]

/-- Settles O11. -/
theorem faultsExactlyOnReservedStatus : Obligations.FaultsExactlyOnReservedStatus := fun s r => by
  rw [step_eq_fault_iff, reservedStatus_iff]

theorem safeStep_of_not_reserved {s : State} (h : s.PHASE = .resp → reservedStatus s.RSP_STATUS = false) :
    safeStep s := by
  intro r hf
  obtain ⟨-, hp, hres⟩ := (step_eq_fault_iff s r).mp hf
  simp [h hp] at hres

theorem idleStep_PHASE_ne_resp (p : PortSample) {s : State} (hp : s.PHASE = .idle) : (idleStep p s).PHASE ≠ .resp := by
  unfold idleStep
  split <;> simp [hp]

/-- A status presented after a step is not reserved: either a command has just responded with it, or the step held a
response that was not reserved. -/
theorem reservedStatus_of_step {s t : State} (h : step s = .next t) (ht : t.PHASE = .resp) :
    reservedStatus t.RSP_STATUS = false := by
  rcases step_cases h with ⟨-, rfl⟩ | ⟨-, hp, rfl⟩ | ⟨-, hp, he⟩ | ⟨-, -, he⟩
  · simp at ht
  · exact absurd ht (idleStep_PHASE_ne_resp _ hp)
  · rcases RSP_STATUS_of_execStep (s := dropPort s) hp he ht with ⟨-, hst⟩ | ⟨-, hst⟩ <;> simp [hst]
  · rcases respStep_cases (portNow s) (dropPort s) with ⟨-, hs⟩ | ⟨-, -, hs⟩ | ⟨hst, -, hs⟩ <;> cases hs.symm.trans he
    · simp at ht
    · exact hst

theorem Reachable.reservedStatus_eq_false {p : Params} {s : State} (hr : Reachable p s) (hp : s.PHASE = .resp) :
    reservedStatus s.RSP_STATUS = false := by
  cases hr with
  | reset _ _ _ hi => simp [hi] at hp
  | step u _ _ h => exact reservedStatus_of_step h hp

/-- Settles O47: what a reachable state presents is not reserved, and a fault would need it to be. -/
theorem reservedStatusNeverProduced : Obligations.ReservedStatusNeverProduced := fun _ _ hr =>
  ⟨fun hp => by simpa [reservedStatus] using hr.reservedStatus_eq_false hp,
    safeStep_of_not_reserved hr.reservedStatus_eq_false⟩

/-! ### Steps that continue (R200, R214) -/

theorem Inv.reservedStatus_eq_false {s : State} (hi : Inv s) (hp : s.PHASE = .resp) :
    reservedStatus s.RSP_STATUS = false := by
  rcases hi.status hp with h | h <;> simp [h]

/-- Settles O53: the invariant excludes a fault, and the port a refusal. -/
theorem admittedStepsAlwaysContinue : Obligations.AdmittedStepsAlwaysContinue := by
  intro s hi hport
  cases h : step s with
  | next t => exact ⟨t, rfl⟩
  | fault r => exact absurd h (safeStep_of_not_reserved hi.reservedStatus_eq_false r)
  | refused r =>
    obtain ⟨hr, hc, -⟩ := (refusedExactlyWhenUnarbitrated s r).mp h
    simp [hr, hc] at hport

/-- Settles O9. -/
theorem idleWaitsForCommand : Obligations.IdleWaitsForCommand := by
  intro s ho hp hv
  rw [step_of_idle s ho hp, idleStep, if_neg (by simp [hv])]
  rfl

/-! ### Several instances (R212) -/

/-- Settles O59: a move of the system writes at most place `k` of the list. -/
theorem instancesShareNothing : Obligations.InstancesShareNothing := by
  rintro ⟨l, turn⟩ z k rest rfl h
  rcases systemStep_eq_next_iff.mp h with ⟨hk, rfl⟩ | ⟨s, t, hk, hst, rfl⟩
  · exact ⟨rfl, rfl, fun _ _ => rfl, fun s hs => by simp [hk] at hs⟩
  · refine ⟨rfl, List.length_set, fun j hj => List.getElem?_set_ne hj.symm, fun s' hs => ?_⟩
    cases hk.symm.trans hs
    obtain ⟨hlt, -⟩ := List.getElem?_eq_some_iff.mp hk
    exact ⟨t, hst, List.getElem?_set_self hlt⟩

end Sys2Proof.Machine
end

section
/-! PROOF. Reset (`70_reset_and_hazards.md` R230 to R232): the one step an edge with `rst = 1` can take, what the ports
show around it, and the commands that may follow. -/

namespace Sys2Proof.Machine

/-! ### The ports while `rst = 1` (R232), and in `IDLE` -/

@[simp] theorem cmdReady_rst (s : State) : cmdReady s true = false := by
  simp [cmdReady]

@[simp] theorem rspValid_rst (s : State) : rspValid s true = false := by
  simp [rspValid]

/-- No response is presented in `IDLE` (R74). -/
theorem rspValid_of_idle {s : State} (hp : s.PHASE = .idle) (r : Bool) : rspValid s r = false := by
  simp [rspValid, hp]

/-! ### The edge with `rst = 1` (R230, R231) -/

/-- Reset takes precedence over the phase and a contested port, so it leaves one next state. -/
theorem eq_resetEdge_of_step {s t : State} (hr : (portNow s).rst = true) (h : step s = .next t) :
    t = resetEdge (dropPort s) := by
  cases (step_of_rst s hr).symm.trans h
  rfl

/-- Settles O2: the fields of the state that the reset edge leaves. -/
theorem resetEdgeAbandonsCommand : Obligations.ResetEdgeAbandonsCommand := fun s hr =>
  ⟨rspValid_rst s, eventOf_of_rst hr, resetEdge (dropPort s), step_of_rst s hr, rfl, rfl, rspValid_of_idle rfl, rfl, rfl⟩

/-! ### After reset -/

/-- Settles O3: the state after the edge is idle, so an offered command is accepted, and acceptance keeps `S`. -/
theorem firstEdgeAfterResetAcceptsCommand : Obligations.FirstEdgeAfterResetAcceptsCommand := by
  refine ⟨fun s => ⟨cmdReady_rst s, rspValid_rst s⟩, fun s t hr h => ?_⟩
  obtain rfl := eq_resetEdge_of_step hr h
  refine ⟨rfl, by simp [cmdReady], rfl, fun ho hv => ?_⟩
  obtain ⟨-, hu⟩ := acceptanceLatchesCommand.1 _ ho rfl hv
  exact ⟨_, hu, rfl, rfl, rfl, rfl⟩

/-- Settles O4: the guard keeps the reset value from being zero, and DRAW64 answers from it. -/
theorem drawBeforeSeedIsDefined : Obligations.DrawBeforeSeedIsDefined := by
  intro s t hp hr h
  obtain rfl := eq_resetEdge_of_step hr h
  exact ⟨seedInit_ne_zero _ hp, responds_exec_draw64 _⟩

/-- Settles O48: the state right after reset is reachable, and its parameters are admissible whatever the OPEN values
are. -/
theorem resetMeetsInvariant : Obligations.ResetMeetsInvariant :=
  inv_of_reachable params_wf (.reset _ reset_cfg reset_S reset_PHASE)

end Sys2Proof.Machine
end
